-- ==== Sys2Proof/Word.lean ====
section
/-! DEFINITION. The bit-vector types the manual itself uses (00_scope.md R8, R9). -/

namespace Sys2Proof

/-- Half a byte: the unit in which the opcode maps of R119 to R123 are written. -/
abbrev Nibble := BitVec 4

/-- "A byte is 8 bits" (R9). -/
abbrev Byte := BitVec 8

/-- "a word 16 bits" (R9). -/
abbrev Word := BitVec 16

/-- "a longword 32 bits" (R9): the width of ER0 to ER7 (R20). -/
abbrev Long := BitVec 32

/-- "An address is 24 bits" (R70): the width of the program counter (R26). -/
abbrev Addr := BitVec 24

end Sys2Proof
end

