-- ==== Sys2Proof/Config.lean ====
section
/-! DEFINITION. What a run fixes before reset (R7, R461), and the values the manual leaves open. -/

namespace Sys2Proof

/-- The MCU operating modes the mode pins may select: "The H8/3022 Series can be used only in modes 1, 3, or 5 to 7"
(R436). A value outside them cannot be written (92 D15). -/
inductive McuMode where
  | mode1 | mode3 | mode5 | mode6 | mode7
  deriving DecidableEq, Repr

/-- The chips of the series (R1, 90 C2). The F-ZTAT version has the memory of the H8/3022. -/
inductive Product where
  | h83022 | h83022Fztat | h83021 | h83020
  deriving DecidableEq, Repr

/-- What stands at a region of addresses that the board or the absent chapters of the manual decide (R97, R100):
plain memory, memory that ignores writes, a register whose reads return H'FF whatever was written (the PADDR of
section 2.6.5), or a device that answers by a host callback (92 D6, D8). For internal I/O registers "The data bus is 8 or
16 bits wide, depending on the register being accessed" (R98): a word access to a wide device there is one call, to any
other device it is two. Log 17. -/
inductive PlatformKind where
  | ram | rom | writeOnly
  | device (wide : Bool)
  deriving DecidableEq, Repr

/-- Whether the platform supplies cells of memory, and no device. -/
def PlatformKind.isCell : PlatformKind → Bool
  | .ram | .rom | .writeOnly => true
  | .device _ => false

/-- One region of the parameters `EXT_MEM` and `IO_DEVICE` (R7), by the addresses put to memory. `ioPort` says that it
holds the registers of an I/O port, which "remain in their existing states" in software standby mode (R404); it says
nothing of external space. Log 17. -/
structure PlatformRegion where
  base : Nat
  size : Nat
  kind : PlatformKind
  ioPort : Bool
  deriving DecidableEq, Repr

/-- Which bit of IPRB gives each group of sources its priority: "A model that needs priorities for those groups takes
the layout as a parameter" (R52). -/
structure IprbLayout where
  itu3 : Fin 8
  itu4 : Fin 8
  sci0 : Fin 8
  sci1 : Fin 8
  ad : Fin 8
  deriving DecidableEq, Repr

/-- The layout "generally known for this series" (R52): bits 7, 6, 3, 2 and 1. PRESUMED by the spec (93 G9), log 24. -/
def IprbLayout.usual : IprbLayout := ⟨7, 6, 3, 2, 1⟩

/-- The free values of 93_implementation_defined.md ("any value"): the n-th value the machine draws. It has no body, so
nothing can be proved of it. A narrower draw is its low bits. Log 18. -/
opaque Config.freeValue : Nat → BitVec 32

end Sys2Proof
end

