-- ==== Sys2Proof/Syntax.lean ====
section
/-! DEFINITION. The instructions: the rows of the opcode table in its order, operands in the assembler's order
"source first, destination last" (R128). A row is one constructor, but for rows of one mnemonic that differ only in a
displacement size (Bcc) or in the constant they add (ADDS, SUBS, INC, DEC): those are one constructor. Log 36. -/

namespace Sys2Proof

/-- The number of a 32-bit register ER0 to ER7 (R20, R114). -/
abbrev RegNum := Fin 8

/-- An 8-bit register: RnH or RnL (R22). -/
inductive Reg8 where
  | h (n : RegNum)
  | l (n : RegNum)
  deriving DecidableEq, Repr

/-- A 16-bit register: Rn or En (R21). -/
inductive Reg16 where
  | r (n : RegNum)
  | e (n : RegNum)
  deriving DecidableEq, Repr

/-- The 32-bit register an 8-bit register is a part of (R23). -/
def Reg8.num : Reg8 → RegNum
  | .h n => n
  | .l n => n

/-- The 32-bit register a 16-bit register is a part of (R23). -/
def Reg16.num : Reg16 → RegNum
  | .r n => n
  | .e n => n

/-- The displacement of a Bcc: `d:8` or `d:16` (R301). -/
inductive BranchDisp where
  | d8 (disp : BitVec 8)
  | d16 (disp : BitVec 16)
  deriving DecidableEq, Repr

/-- The constant ADDS and SUBS name in their assembler line (R190, R191). -/
inductive AddsStep where
  | one | two | four
  deriving DecidableEq, Repr

/-- The constant INC.W, INC.L, DEC.W and DEC.L name in their assembler line (R188, R189). -/
inductive IncStep where
  | one | two
  deriving DecidableEq, Repr

/-- The instruction forms of opcode_table.json. -/
inductive Instr where
  -- Data transfer, MOV (R150 to R165)
  | movBRegReg (rs rd : Reg8)
  | movWRegReg (rs rd : Reg16)
  | movLRegReg (ers erd : RegNum)
  | movBImm (imm : BitVec 8) (rd : Reg8)
  | movWImm (imm : BitVec 16) (rd : Reg16)
  | movLImm (imm : BitVec 32) (erd : RegNum)
  | movBLoadInd (ers : RegNum) (rd : Reg8)
  | movBLoadDisp16 (disp : BitVec 16) (ers : RegNum) (rd : Reg8)
  | movBLoadDisp24 (disp : BitVec 24) (ers : RegNum) (rd : Reg8)
  | movBLoadPostInc (ers : RegNum) (rd : Reg8)
  | movBLoadAbs8 (aa : BitVec 8) (rd : Reg8)
  | movBLoadAbs16 (aa : BitVec 16) (rd : Reg8)
  | movBLoadAbs24 (aa : BitVec 24) (rd : Reg8)
  | movWLoadInd (ers : RegNum) (rd : Reg16)
  | movWLoadDisp16 (disp : BitVec 16) (ers : RegNum) (rd : Reg16)
  | movWLoadDisp24 (disp : BitVec 24) (ers : RegNum) (rd : Reg16)
  | movWLoadPostInc (ers : RegNum) (rd : Reg16)
  | movWLoadAbs16 (aa : BitVec 16) (rd : Reg16)
  | movWLoadAbs24 (aa : BitVec 24) (rd : Reg16)
  | movLLoadInd (ers erd : RegNum)
  | movLLoadDisp16 (disp : BitVec 16) (ers erd : RegNum)
  | movLLoadDisp24 (disp : BitVec 24) (ers erd : RegNum)
  | movLLoadPostInc (ers erd : RegNum)
  | movLLoadAbs16 (aa : BitVec 16) (erd : RegNum)
  | movLLoadAbs24 (aa : BitVec 24) (erd : RegNum)
  | movBStoreInd (rs : Reg8) (erd : RegNum)
  | movBStoreDisp16 (rs : Reg8) (disp : BitVec 16) (erd : RegNum)
  | movBStoreDisp24 (rs : Reg8) (disp : BitVec 24) (erd : RegNum)
  | movBStorePreDec (rs : Reg8) (erd : RegNum)
  | movBStoreAbs8 (rs : Reg8) (aa : BitVec 8)
  | movBStoreAbs16 (rs : Reg8) (aa : BitVec 16)
  | movBStoreAbs24 (rs : Reg8) (aa : BitVec 24)
  | movWStoreInd (rs : Reg16) (erd : RegNum)
  | movWStoreDisp16 (rs : Reg16) (disp : BitVec 16) (erd : RegNum)
  | movWStoreDisp24 (rs : Reg16) (disp : BitVec 24) (erd : RegNum)
  | movWStorePreDec (rs : Reg16) (erd : RegNum)
  | movWStoreAbs16 (rs : Reg16) (aa : BitVec 16)
  | movWStoreAbs24 (rs : Reg16) (aa : BitVec 24)
  | movLStoreInd (ers erd : RegNum)
  | movLStoreDisp16 (ers : RegNum) (disp : BitVec 16) (erd : RegNum)
  | movLStoreDisp24 (ers : RegNum) (disp : BitVec 24) (erd : RegNum)
  | movLStorePreDec (ers erd : RegNum)
  | movLStoreAbs16 (ers : RegNum) (aa : BitVec 16)
  | movLStoreAbs24 (ers : RegNum) (aa : BitVec 24)
  | movfpe (aa : BitVec 16) (rd : Reg8)
  | movtpe (rs : Reg8) (aa : BitVec 16)
  -- PUSH and POP (R166 to R169): the words of MOV.W and MOV.L with @ER7+ or @-ER7
  | popW (rd : Reg16)
  | popL (erd : RegNum)
  | pushW (rs : Reg16)
  | pushL (ers : RegNum)
  -- ADD, SUB, CMP, NEG (R181 to R184)
  | addBImm (imm : BitVec 8) (rd : Reg8)
  | addBReg (rs rd : Reg8)
  | addWImm (imm : BitVec 16) (rd : Reg16)
  | addWReg (rs rd : Reg16)
  | addLImm (imm : BitVec 32) (erd : RegNum)
  | addLReg (ers erd : RegNum)
  | subBReg (rs rd : Reg8)
  | subWImm (imm : BitVec 16) (rd : Reg16)
  | subWReg (rs rd : Reg16)
  | subLImm (imm : BitVec 32) (erd : RegNum)
  | subLReg (ers erd : RegNum)
  | cmpBImm (imm : BitVec 8) (rd : Reg8)
  | cmpBReg (rs rd : Reg8)
  | cmpWImm (imm : BitVec 16) (rd : Reg16)
  | cmpWReg (rs rd : Reg16)
  | cmpLImm (imm : BitVec 32) (erd : RegNum)
  | cmpLReg (ers erd : RegNum)
  | negB (rd : Reg8)
  | negW (rd : Reg16)
  | negL (erd : RegNum)
  -- ADDX, SUBX (R186, R187)
  | addxImm (imm : BitVec 8) (rd : Reg8)
  | addxReg (rs rd : Reg8)
  | subxImm (imm : BitVec 8) (rd : Reg8)
  | subxReg (rs rd : Reg8)
  -- INC, DEC, ADDS, SUBS (R188 to R191)
  | incB (rd : Reg8)
  | incW (k : IncStep) (rd : Reg16)
  | incL (k : IncStep) (erd : RegNum)
  | decB (rd : Reg8)
  | decW (k : IncStep) (rd : Reg16)
  | decL (k : IncStep) (erd : RegNum)
  | adds (k : AddsStep) (erd : RegNum)
  | subs (k : AddsStep) (erd : RegNum)
  -- MULX, DAA, DAS, DIVX, EXTS, EXTU (R192 to R204)
  | mulxuB (rs : Reg8) (rd : Reg16)
  | mulxuW (rs : Reg16) (erd : RegNum)
  | mulxsB (rs : Reg8) (rd : Reg16)
  | mulxsW (rs : Reg16) (erd : RegNum)
  | daa (rd : Reg8)
  | das (rd : Reg8)
  | divxuB (rs : Reg8) (rd : Reg16)
  | divxuW (rs : Reg16) (erd : RegNum)
  | divxsB (rs : Reg8) (rd : Reg16)
  | divxsW (rs : Reg16) (erd : RegNum)
  | extsW (rd : Reg16)
  | extsL (erd : RegNum)
  | extuW (rd : Reg16)
  | extuL (erd : RegNum)
  -- Logic (R230 to R234)
  | andBImm (imm : BitVec 8) (rd : Reg8)
  | andBReg (rs rd : Reg8)
  | andWImm (imm : BitVec 16) (rd : Reg16)
  | andWReg (rs rd : Reg16)
  | andLImm (imm : BitVec 32) (erd : RegNum)
  | andLReg (ers erd : RegNum)
  | orBImm (imm : BitVec 8) (rd : Reg8)
  | orBReg (rs rd : Reg8)
  | orWImm (imm : BitVec 16) (rd : Reg16)
  | orWReg (rs rd : Reg16)
  | orLImm (imm : BitVec 32) (erd : RegNum)
  | orLReg (ers erd : RegNum)
  | xorBImm (imm : BitVec 8) (rd : Reg8)
  | xorBReg (rs rd : Reg8)
  | xorWImm (imm : BitVec 16) (rd : Reg16)
  | xorWReg (rs rd : Reg16)
  | xorLImm (imm : BitVec 32) (erd : RegNum)
  | xorLReg (ers erd : RegNum)
  | notB (rd : Reg8)
  | notW (rd : Reg16)
  | notL (erd : RegNum)
  -- Shift and rotate (R250 to R258)
  | shalB (rd : Reg8)
  | shalW (rd : Reg16)
  | shalL (erd : RegNum)
  | sharB (rd : Reg8)
  | sharW (rd : Reg16)
  | sharL (erd : RegNum)
  | shllB (rd : Reg8)
  | shllW (rd : Reg16)
  | shllL (erd : RegNum)
  | shlrB (rd : Reg8)
  | shlrW (rd : Reg16)
  | shlrL (erd : RegNum)
  | rotlB (rd : Reg8)
  | rotlW (rd : Reg16)
  | rotlL (erd : RegNum)
  | rotrB (rd : Reg8)
  | rotrW (rd : Reg16)
  | rotrL (erd : RegNum)
  | rotxlB (rd : Reg8)
  | rotxlW (rd : Reg16)
  | rotxlL (erd : RegNum)
  | rotxrB (rd : Reg8)
  | rotxrW (rd : Reg16)
  | rotxrL (erd : RegNum)
  -- Bit manipulation (R270 to R285): bit number, then operand
  | bsetImmReg (bit : BitVec 3) (rd : Reg8)
  | bsetImmInd (bit : BitVec 3) (erd : RegNum)
  | bsetImmAbs8 (bit : BitVec 3) (aa : BitVec 8)
  | bsetRegReg (rn rd : Reg8)
  | bsetRegInd (rn : Reg8) (erd : RegNum)
  | bsetRegAbs8 (rn : Reg8) (aa : BitVec 8)
  | bclrImmReg (bit : BitVec 3) (rd : Reg8)
  | bclrImmInd (bit : BitVec 3) (erd : RegNum)
  | bclrImmAbs8 (bit : BitVec 3) (aa : BitVec 8)
  | bclrRegReg (rn rd : Reg8)
  | bclrRegInd (rn : Reg8) (erd : RegNum)
  | bclrRegAbs8 (rn : Reg8) (aa : BitVec 8)
  | bnotImmReg (bit : BitVec 3) (rd : Reg8)
  | bnotImmInd (bit : BitVec 3) (erd : RegNum)
  | bnotImmAbs8 (bit : BitVec 3) (aa : BitVec 8)
  | bnotRegReg (rn rd : Reg8)
  | bnotRegInd (rn : Reg8) (erd : RegNum)
  | bnotRegAbs8 (rn : Reg8) (aa : BitVec 8)
  | btstImmReg (bit : BitVec 3) (rd : Reg8)
  | btstImmInd (bit : BitVec 3) (erd : RegNum)
  | btstImmAbs8 (bit : BitVec 3) (aa : BitVec 8)
  | btstRegReg (rn rd : Reg8)
  | btstRegInd (rn : Reg8) (erd : RegNum)
  | btstRegAbs8 (rn : Reg8) (aa : BitVec 8)
  | bandReg (bit : BitVec 3) (rd : Reg8)
  | bandInd (bit : BitVec 3) (erd : RegNum)
  | bandAbs8 (bit : BitVec 3) (aa : BitVec 8)
  | biandReg (bit : BitVec 3) (rd : Reg8)
  | biandInd (bit : BitVec 3) (erd : RegNum)
  | biandAbs8 (bit : BitVec 3) (aa : BitVec 8)
  | borReg (bit : BitVec 3) (rd : Reg8)
  | borInd (bit : BitVec 3) (erd : RegNum)
  | borAbs8 (bit : BitVec 3) (aa : BitVec 8)
  | biorReg (bit : BitVec 3) (rd : Reg8)
  | biorInd (bit : BitVec 3) (erd : RegNum)
  | biorAbs8 (bit : BitVec 3) (aa : BitVec 8)
  | bxorReg (bit : BitVec 3) (rd : Reg8)
  | bxorInd (bit : BitVec 3) (erd : RegNum)
  | bxorAbs8 (bit : BitVec 3) (aa : BitVec 8)
  | bixorReg (bit : BitVec 3) (rd : Reg8)
  | bixorInd (bit : BitVec 3) (erd : RegNum)
  | bixorAbs8 (bit : BitVec 3) (aa : BitVec 8)
  | bldReg (bit : BitVec 3) (rd : Reg8)
  | bldInd (bit : BitVec 3) (erd : RegNum)
  | bldAbs8 (bit : BitVec 3) (aa : BitVec 8)
  | bildReg (bit : BitVec 3) (rd : Reg8)
  | bildInd (bit : BitVec 3) (erd : RegNum)
  | bildAbs8 (bit : BitVec 3) (aa : BitVec 8)
  | bstReg (bit : BitVec 3) (rd : Reg8)
  | bstInd (bit : BitVec 3) (erd : RegNum)
  | bstAbs8 (bit : BitVec 3) (aa : BitVec 8)
  | bistReg (bit : BitVec 3) (rd : Reg8)
  | bistInd (bit : BitVec 3) (erd : RegNum)
  | bistAbs8 (bit : BitVec 3) (aa : BitVec 8)
  -- Bcc, by condition (R300 to R302)
  | bra (d : BranchDisp)
  | brn (d : BranchDisp)
  | bhi (d : BranchDisp)
  | bls (d : BranchDisp)
  | bcc (d : BranchDisp)
  | bcs (d : BranchDisp)
  | bne (d : BranchDisp)
  | beq (d : BranchDisp)
  | bvc (d : BranchDisp)
  | bvs (d : BranchDisp)
  | bpl (d : BranchDisp)
  | bmi (d : BranchDisp)
  | bge (d : BranchDisp)
  | blt (d : BranchDisp)
  | bgt (d : BranchDisp)
  | ble (d : BranchDisp)
  -- JMP, BSR, JSR, RTS (R303 to R311)
  | jmpInd (ern : RegNum)
  | jmpAbs24 (aa : BitVec 24)
  | jmpMemInd (aa : BitVec 8)
  | bsr8 (disp : BitVec 8)
  | bsr16 (disp : BitVec 16)
  | jsrInd (ern : RegNum)
  | jsrAbs24 (aa : BitVec 24)
  | jsrMemInd (aa : BitVec 8)
  | rts
  -- System control (R320 to R331)
  | trapa (vec : BitVec 2)
  | rte
  | sleep
  | ldcImm (imm : BitVec 8)
  | ldcReg (rs : Reg8)
  | ldcInd (ers : RegNum)
  | ldcDisp16 (disp : BitVec 16) (ers : RegNum)
  | ldcDisp24 (disp : BitVec 24) (ers : RegNum)
  | ldcPostInc (ers : RegNum)
  | ldcAbs16 (aa : BitVec 16)
  | ldcAbs24 (aa : BitVec 24)
  | stcReg (rd : Reg8)
  | stcInd (erd : RegNum)
  | stcDisp16 (disp : BitVec 16) (erd : RegNum)
  | stcDisp24 (disp : BitVec 24) (erd : RegNum)
  | stcPreDec (erd : RegNum)
  | stcAbs16 (aa : BitVec 16)
  | stcAbs24 (aa : BitVec 24)
  | andc (imm : BitVec 8)
  | orc (imm : BitVec 8)
  | xorc (imm : BitVec 8)
  | nop
  -- Block transfer (R350, R351)
  | eepmovB
  | eepmovW
  deriving DecidableEq, Repr

end Sys2Proof
end

