-- ==== Sys2Proof/WellFormed.lean ====
section
/-! DEFINITION. Which terms of `Instr` an assembler line may stand for. The types already bound every operand; the one
check left is that a word has one name: MOV.W and MOV.L with @ER7+ and @-ER7 are written POP and PUSH (R129). -/

namespace Sys2Proof

/-- The forms that PUSH and POP name (R166 to R169) are written only as PUSH and POP. Log 8. -/
def Instr.wellFormed : Instr → Bool
  | .movBRegReg _ _ => true
  | .movWRegReg _ _ => true
  | .movLRegReg _ _ => true
  | .movBImm _ _ => true
  | .movWImm _ _ => true
  | .movLImm _ _ => true
  | .movBLoadInd _ _ => true
  | .movBLoadDisp16 _ _ _ => true
  | .movBLoadDisp24 _ _ _ => true
  | .movBLoadPostInc _ _ => true
  | .movBLoadAbs8 _ _ => true
  | .movBLoadAbs16 _ _ => true
  | .movBLoadAbs24 _ _ => true
  | .movWLoadInd _ _ => true
  | .movWLoadDisp16 _ _ _ => true
  | .movWLoadDisp24 _ _ _ => true
  | .movWLoadPostInc ers _ => ers != 7
  | .movWLoadAbs16 _ _ => true
  | .movWLoadAbs24 _ _ => true
  | .movLLoadInd _ _ => true
  | .movLLoadDisp16 _ _ _ => true
  | .movLLoadDisp24 _ _ _ => true
  | .movLLoadPostInc ers _ => ers != 7
  | .movLLoadAbs16 _ _ => true
  | .movLLoadAbs24 _ _ => true
  | .movBStoreInd _ _ => true
  | .movBStoreDisp16 _ _ _ => true
  | .movBStoreDisp24 _ _ _ => true
  | .movBStorePreDec _ _ => true
  | .movBStoreAbs8 _ _ => true
  | .movBStoreAbs16 _ _ => true
  | .movBStoreAbs24 _ _ => true
  | .movWStoreInd _ _ => true
  | .movWStoreDisp16 _ _ _ => true
  | .movWStoreDisp24 _ _ _ => true
  | .movWStorePreDec _ erd => erd != 7
  | .movWStoreAbs16 _ _ => true
  | .movWStoreAbs24 _ _ => true
  | .movLStoreInd _ _ => true
  | .movLStoreDisp16 _ _ _ => true
  | .movLStoreDisp24 _ _ _ => true
  | .movLStorePreDec _ erd => erd != 7
  | .movLStoreAbs16 _ _ => true
  | .movLStoreAbs24 _ _ => true
  | .movfpe _ _ => true
  | .movtpe _ _ => true
  | .popW _ => true
  | .popL _ => true
  | .pushW _ => true
  | .pushL _ => true
  | .addBImm _ _ => true
  | .addBReg _ _ => true
  | .addWImm _ _ => true
  | .addWReg _ _ => true
  | .addLImm _ _ => true
  | .addLReg _ _ => true
  | .subBReg _ _ => true
  | .subWImm _ _ => true
  | .subWReg _ _ => true
  | .subLImm _ _ => true
  | .subLReg _ _ => true
  | .cmpBImm _ _ => true
  | .cmpBReg _ _ => true
  | .cmpWImm _ _ => true
  | .cmpWReg _ _ => true
  | .cmpLImm _ _ => true
  | .cmpLReg _ _ => true
  | .negB _ => true
  | .negW _ => true
  | .negL _ => true
  | .addxImm _ _ => true
  | .addxReg _ _ => true
  | .subxImm _ _ => true
  | .subxReg _ _ => true
  | .incB _ => true
  | .incW _ _ => true
  | .incL _ _ => true
  | .decB _ => true
  | .decW _ _ => true
  | .decL _ _ => true
  | .adds _ _ => true
  | .subs _ _ => true
  | .mulxuB _ _ => true
  | .mulxuW _ _ => true
  | .mulxsB _ _ => true
  | .mulxsW _ _ => true
  | .daa _ => true
  | .das _ => true
  | .divxuB _ _ => true
  | .divxuW _ _ => true
  | .divxsB _ _ => true
  | .divxsW _ _ => true
  | .extsW _ => true
  | .extsL _ => true
  | .extuW _ => true
  | .extuL _ => true
  | .andBImm _ _ => true
  | .andBReg _ _ => true
  | .andWImm _ _ => true
  | .andWReg _ _ => true
  | .andLImm _ _ => true
  | .andLReg _ _ => true
  | .orBImm _ _ => true
  | .orBReg _ _ => true
  | .orWImm _ _ => true
  | .orWReg _ _ => true
  | .orLImm _ _ => true
  | .orLReg _ _ => true
  | .xorBImm _ _ => true
  | .xorBReg _ _ => true
  | .xorWImm _ _ => true
  | .xorWReg _ _ => true
  | .xorLImm _ _ => true
  | .xorLReg _ _ => true
  | .notB _ => true
  | .notW _ => true
  | .notL _ => true
  | .shalB _ => true
  | .shalW _ => true
  | .shalL _ => true
  | .sharB _ => true
  | .sharW _ => true
  | .sharL _ => true
  | .shllB _ => true
  | .shllW _ => true
  | .shllL _ => true
  | .shlrB _ => true
  | .shlrW _ => true
  | .shlrL _ => true
  | .rotlB _ => true
  | .rotlW _ => true
  | .rotlL _ => true
  | .rotrB _ => true
  | .rotrW _ => true
  | .rotrL _ => true
  | .rotxlB _ => true
  | .rotxlW _ => true
  | .rotxlL _ => true
  | .rotxrB _ => true
  | .rotxrW _ => true
  | .rotxrL _ => true
  | .bsetImmReg _ _ => true
  | .bsetImmInd _ _ => true
  | .bsetImmAbs8 _ _ => true
  | .bsetRegReg _ _ => true
  | .bsetRegInd _ _ => true
  | .bsetRegAbs8 _ _ => true
  | .bclrImmReg _ _ => true
  | .bclrImmInd _ _ => true
  | .bclrImmAbs8 _ _ => true
  | .bclrRegReg _ _ => true
  | .bclrRegInd _ _ => true
  | .bclrRegAbs8 _ _ => true
  | .bnotImmReg _ _ => true
  | .bnotImmInd _ _ => true
  | .bnotImmAbs8 _ _ => true
  | .bnotRegReg _ _ => true
  | .bnotRegInd _ _ => true
  | .bnotRegAbs8 _ _ => true
  | .btstImmReg _ _ => true
  | .btstImmInd _ _ => true
  | .btstImmAbs8 _ _ => true
  | .btstRegReg _ _ => true
  | .btstRegInd _ _ => true
  | .btstRegAbs8 _ _ => true
  | .bandReg _ _ => true
  | .bandInd _ _ => true
  | .bandAbs8 _ _ => true
  | .biandReg _ _ => true
  | .biandInd _ _ => true
  | .biandAbs8 _ _ => true
  | .borReg _ _ => true
  | .borInd _ _ => true
  | .borAbs8 _ _ => true
  | .biorReg _ _ => true
  | .biorInd _ _ => true
  | .biorAbs8 _ _ => true
  | .bxorReg _ _ => true
  | .bxorInd _ _ => true
  | .bxorAbs8 _ _ => true
  | .bixorReg _ _ => true
  | .bixorInd _ _ => true
  | .bixorAbs8 _ _ => true
  | .bldReg _ _ => true
  | .bldInd _ _ => true
  | .bldAbs8 _ _ => true
  | .bildReg _ _ => true
  | .bildInd _ _ => true
  | .bildAbs8 _ _ => true
  | .bstReg _ _ => true
  | .bstInd _ _ => true
  | .bstAbs8 _ _ => true
  | .bistReg _ _ => true
  | .bistInd _ _ => true
  | .bistAbs8 _ _ => true
  | .bra _ => true
  | .brn _ => true
  | .bhi _ => true
  | .bls _ => true
  | .bcc _ => true
  | .bcs _ => true
  | .bne _ => true
  | .beq _ => true
  | .bvc _ => true
  | .bvs _ => true
  | .bpl _ => true
  | .bmi _ => true
  | .bge _ => true
  | .blt _ => true
  | .bgt _ => true
  | .ble _ => true
  | .jmpInd _ => true
  | .jmpAbs24 _ => true
  | .jmpMemInd _ => true
  | .bsr8 _ => true
  | .bsr16 _ => true
  | .jsrInd _ => true
  | .jsrAbs24 _ => true
  | .jsrMemInd _ => true
  | .rts => true
  | .trapa _ => true
  | .rte => true
  | .sleep => true
  | .ldcImm _ => true
  | .ldcReg _ => true
  | .ldcInd _ => true
  | .ldcDisp16 _ _ => true
  | .ldcDisp24 _ _ => true
  | .ldcPostInc _ => true
  | .ldcAbs16 _ => true
  | .ldcAbs24 _ => true
  | .stcReg _ => true
  | .stcInd _ => true
  | .stcDisp16 _ _ => true
  | .stcDisp24 _ _ => true
  | .stcPreDec _ => true
  | .stcAbs16 _ => true
  | .stcAbs24 _ => true
  | .andc _ => true
  | .orc _ => true
  | .xorc _ => true
  | .nop => true
  | .eepmovB => true
  | .eepmovW => true

end Sys2Proof
end

