-- ==== Sys2Proof/Decode.lean ====
section
/-! DEFINITION. From bytes to instructions (30_encoding.md) and back. Every encoding is written in nibbles, the unit of
the opcode maps R119 to R123; every field is a nibble, a part of one, or several. The bit patterns are the spec's from
general knowledge (R110). PRESUMED, log 5. -/

namespace Sys2Proof

/-- Why bytes are no instruction. The model then refuses (R125, R126, 92 D1). -/
inductive DecodeError where
  /-- There are fewer bytes than the instruction needs. -/
  | truncated
  /-- No row of the opcode table owns the pattern (R125). -/
  | unowned
  /-- A fixed bit beside a field has the wrong value (R126). -/
  | fixedBits
  deriving DecidableEq, Repr

/-- What the decoder reads: an instruction, or the reason why there is none. -/
abbrev DecodeResult := Except DecodeError

/-! ### Fields (R113 to R118) -/

/-- Three low bits of a nibble as a register number (R114). -/
def RegNum.ofNibble (f : Nibble) : RegNum := Fin.ofNat 8 f.toNat

/-- `reg8(f)`: 0 to 7 are R0H to R7H, 8 to 15 are R0L to R7L (R114). -/
def Reg8.ofNibble (f : Nibble) : Reg8 :=
  if f.toNat < 8 then .h (RegNum.ofNibble f) else .l (RegNum.ofNibble f)

/-- `reg16(f)`: 0 to 7 are R0 to R7, 8 to 15 are E0 to E7 (R114). -/
def Reg16.ofNibble (f : Nibble) : Reg16 :=
  if f.toNat < 8 then .r (RegNum.ofNibble f) else .e (RegNum.ofNibble f)

/-- The field of an 8-bit register (R114). -/
def Reg8.nibble : Reg8 → Nibble
  | .h n => BitVec.ofNat 4 n.val
  | .l n => BitVec.ofNat 4 (n.val + 8)

/-- The field of a 16-bit register (R114). -/
def Reg16.nibble : Reg16 → Nibble
  | .r n => BitVec.ofNat 4 n.val
  | .e n => BitVec.ofNat 4 (n.val + 8)

/-- A 3-bit register field under a fixed 0: `0ddd` (R114). -/
def RegNum.low (n : RegNum) : Nibble := BitVec.ofNat 4 n.val

/-- A 3-bit register field under a fixed 1: `1sss` (R114). -/
def RegNum.high (n : RegNum) : Nibble := BitVec.ofNat 4 (n.val + 8)

/-- A 3-bit bit number under a fixed 0: `0iii` (R115). -/
def bitLow (b : BitVec 3) : Nibble := BitVec.ofNat 4 b.toNat

/-- A 3-bit bit number under a fixed 1: `1iii` (R115). -/
def bitHigh (b : BitVec 3) : Nibble := BitVec.ofNat 4 (b.toNat + 8)

/-- The three low bits of a nibble as a bit number (R115). -/
def bitOf (f : Nibble) : BitVec 3 := BitVec.ofNat 3 f.toNat

/-- Reads `0ddd`; a set top bit is a wrong fixed bit (R126). -/
def lowReg (f : Nibble) : DecodeResult RegNum :=
  if f.toNat < 8 then .ok (RegNum.ofNibble f) else .error .fixedBits

/-- Reads `0iii`; a set top bit is a wrong fixed bit (R126). -/
def lowBit (f : Nibble) : DecodeResult (BitVec 3) :=
  if f.toNat < 8 then .ok (bitOf f) else .error .fixedBits

/-- Reads a nibble that must be 0 (R126). -/
def zeroNibble (f : Nibble) : DecodeResult Unit :=
  if f.toNat = 0 then .ok () else .error .fixedBits

/-- Two nibbles as a byte field. -/
def byteOf (a b : Nibble) : BitVec 8 := a ++ b

/-- Six nibbles as a 24-bit field, high byte first (R116). -/
def addrOf (a b c d e f : Nibble) : BitVec 24 := (a ++ b ++ c ++ d ++ e ++ f : BitVec 24)

/-- The next word of the instruction as a 16-bit field (R115 to R117). -/
def wordField : List Nibble → DecodeResult (BitVec 16)
  | a :: b :: c :: d :: _ => .ok (a ++ b ++ c ++ d : BitVec 16)
  | _ => .error .truncated

/-- The next two words as a 32-bit immediate, upper word first (R115). -/
def longField : List Nibble → DecodeResult (BitVec 32)
  | a :: b :: c :: d :: e :: f :: g :: h :: _ => .ok (a ++ b ++ c ++ d ++ e ++ f ++ g ++ h : BitVec 32)
  | _ => .error .truncated

/-- A 24-bit address or displacement stored "as 32-bit data in which the first 8 bits are 0" (R116, R117). -/
def paddedField : List Nibble → DecodeResult (BitVec 24)
  | z :: y :: a :: b :: c :: d :: e :: f :: _ =>
    if z.toNat = 0 ∧ y.toNat = 0 then .ok (addrOf a b c d e f) else .error .fixedBits
  | _ => .error .truncated

/-! ### The decoder, map by map -/

/-- Bcc by its condition field (R118). -/
def decodeBcc (cc : Nibble) (d : BranchDisp) : Instr :=
  match cc.toNat with
  | 0x0 => .bra d
  | 0x1 => .brn d
  | 0x2 => .bhi d
  | 0x3 => .bls d
  | 0x4 => .bcc d
  | 0x5 => .bcs d
  | 0x6 => .bne d
  | 0x7 => .beq d
  | 0x8 => .bvc d
  | 0x9 => .bvs d
  | 0xa => .bpl d
  | 0xb => .bmi d
  | 0xc => .bge d
  | 0xd => .blt d
  | 0xe => .bgt d
  | _ => .ble d

/-- First bytes 79: word immediates (R120). -/
def decodeWordImm (op f : Nibble) (rest : List Nibble) : DecodeResult Instr := do
  let rd := Reg16.ofNibble f
  match op.toNat with
  | 0x0 => return .movWImm (← wordField rest) rd
  | 0x1 => return .addWImm (← wordField rest) rd
  | 0x2 => return .cmpWImm (← wordField rest) rd
  | 0x3 => return .subWImm (← wordField rest) rd
  | 0x4 => return .orWImm (← wordField rest) rd
  | 0x5 => return .xorWImm (← wordField rest) rd
  | 0x6 => return .andWImm (← wordField rest) rd
  | _ => .error .unowned

/-- First byte 7A: longword immediates (R120). -/
def decodeLongImm (op f : Nibble) (rest : List Nibble) : DecodeResult Instr := do
  let erd ← lowReg f
  match op.toNat with
  | 0x0 => return .movLImm (← longField rest) erd
  | 0x1 => return .addLImm (← longField rest) erd
  | 0x2 => return .cmpLImm (← longField rest) erd
  | 0x3 => return .subLImm (← longField rest) erd
  | 0x4 => return .orLImm (← longField rest) erd
  | 0x5 => return .xorLImm (← longField rest) erd
  | 0x6 => return .andLImm (← longField rest) erd
  | _ => .error .unowned

/-- First bytes 10 to 13: shifts and rotates by one bit (R120, R250). -/
def decodeShift (op sz f : Nibble) : DecodeResult Instr := do
  let r8 := Reg8.ofNibble f
  let r16 := Reg16.ofNibble f
  match op.toNat, sz.toNat with
  | 0x0, 0x0 => return .shllB r8
  | 0x0, 0x1 => return .shllW r16
  | 0x0, 0x3 => return .shllL (← lowReg f)
  | 0x0, 0x8 => return .shalB r8
  | 0x0, 0x9 => return .shalW r16
  | 0x0, 0xB => return .shalL (← lowReg f)
  | 0x1, 0x0 => return .shlrB r8
  | 0x1, 0x1 => return .shlrW r16
  | 0x1, 0x3 => return .shlrL (← lowReg f)
  | 0x1, 0x8 => return .sharB r8
  | 0x1, 0x9 => return .sharW r16
  | 0x1, 0xB => return .sharL (← lowReg f)
  | 0x2, 0x0 => return .rotxlB r8
  | 0x2, 0x1 => return .rotxlW r16
  | 0x2, 0x3 => return .rotxlL (← lowReg f)
  | 0x2, 0x8 => return .rotlB r8
  | 0x2, 0x9 => return .rotlW r16
  | 0x2, 0xB => return .rotlL (← lowReg f)
  | 0x3, 0x0 => return .rotxrB r8
  | 0x3, 0x1 => return .rotxrW r16
  | 0x3, 0x3 => return .rotxrL (← lowReg f)
  | 0x3, 0x8 => return .rotrB r8
  | 0x3, 0x9 => return .rotrW r16
  | 0x3, 0xB => return .rotrL (← lowReg f)
  | _, _ => .error .unowned

/-- First byte 17: NOT, NEG, EXTU, EXTS (R120). -/
def decodeUnary (op f : Nibble) : DecodeResult Instr := do
  let r8 := Reg8.ofNibble f
  let r16 := Reg16.ofNibble f
  match op.toNat with
  | 0x0 => return .notB r8
  | 0x1 => return .notW r16
  | 0x3 => return .notL (← lowReg f)
  | 0x5 => return .extuW r16
  | 0x7 => return .extuL (← lowReg f)
  | 0x8 => return .negB r8
  | 0x9 => return .negW r16
  | 0xB => return .negL (← lowReg f)
  | 0xD => return .extsW r16
  | 0xF => return .extsL (← lowReg f)
  | _ => .error .unowned

/-- First byte 0B: ADDS and INC (R120). -/
def decodeAddsInc (op f : Nibble) : DecodeResult Instr := do
  match op.toNat with
  | 0x0 => return .adds .one (← lowReg f)
  | 0x5 => return .incW .one (Reg16.ofNibble f)
  | 0x7 => return .incL .one (← lowReg f)
  | 0x8 => return .adds .two (← lowReg f)
  | 0x9 => return .adds .four (← lowReg f)
  | 0xD => return .incW .two (Reg16.ofNibble f)
  | 0xF => return .incL .two (← lowReg f)
  | _ => .error .unowned

/-- First byte 1B: SUBS and DEC (R120). -/
def decodeSubsDec (op f : Nibble) : DecodeResult Instr := do
  match op.toNat with
  | 0x0 => return .subs .one (← lowReg f)
  | 0x5 => return .decW .one (Reg16.ofNibble f)
  | 0x7 => return .decL .one (← lowReg f)
  | 0x8 => return .subs .two (← lowReg f)
  | 0x9 => return .subs .four (← lowReg f)
  | 0xD => return .decW .two (Reg16.ofNibble f)
  | 0xF => return .decL .two (← lowReg f)
  | _ => .error .unowned

/-- First bytes 0A, 0F, 1A, 1F: a byte form under a zero nibble, a longword form under `1sss` (R120). -/
def decodeByteOrLong (byteForm : Reg8 → Instr) (longForm : RegNum → RegNum → Instr) (c d : Nibble) :
    DecodeResult Instr :=
  if c.toNat = 0 then .ok (byteForm (Reg8.ofNibble d))
  else if c.toNat < 8 then .error .unowned
  else do return longForm (RegNum.ofNibble c) (← lowReg d)

/-- After the prefix 01 00: MOV.L with memory (R121); with ER7 as the modified address register, POP.L and PUSH.L. -/
def decodeMovL : List Nibble → DecodeResult Instr
  | a :: b :: c :: d :: rest =>
    match a.toNat, b.toNat with
    | 0x6, 0x9 => do
      let r ← lowReg d
      if c.toNat < 8 then return .movLLoadInd (RegNum.ofNibble c) r
      else return .movLStoreInd r (RegNum.ofNibble c)
    | 0x6, 0xF => do
      let r ← lowReg d
      let disp ← wordField rest
      if c.toNat < 8 then return .movLLoadDisp16 disp (RegNum.ofNibble c) r
      else return .movLStoreDisp16 r disp (RegNum.ofNibble c)
    | 0x6, 0xD => do
      let r ← lowReg d
      if c.toNat < 8 then
        return if c.toNat = 7 then .popL r else .movLLoadPostInc (RegNum.ofNibble c) r
      else return if c.toNat = 15 then .pushL r else .movLStorePreDec r (RegNum.ofNibble c)
    | 0x6, 0xB => do
      let r ← lowReg d
      match c.toNat with
      | 0x0 => return .movLLoadAbs16 (← wordField rest) r
      | 0x2 => return .movLLoadAbs24 (← paddedField rest) r
      | 0x8 => return .movLStoreAbs16 r (← wordField rest)
      | 0xA => return .movLStoreAbs24 r (← paddedField rest)
      | _ => .error .unowned
    | 0x7, 0x8 => do
      zeroNibble d
      match rest with
      | e :: f :: g :: h :: rest2 =>
        match e.toNat, f.toNat, g.toNat with
        | 0x6, 0xB, 0x2 =>
          let ers ← lowReg c
          return .movLLoadDisp24 (← paddedField rest2) ers (← lowReg h)
        | 0x6, 0xB, 0xA =>
          let disp ← paddedField rest2
          if c.toNat < 8 then .error .fixedBits
          else return .movLStoreDisp24 (← lowReg h) disp (RegNum.ofNibble c)
        | _, _, _ => .error .unowned
      | _ => .error .truncated
    | _, _ => .error .unowned
  | _ => .error .truncated

/-- After the prefix 01 40: LDC and STC with memory (R121, R325, R327). -/
def decodeCcrMemory : List Nibble → DecodeResult Instr
  | a :: b :: c :: d :: rest => do
    zeroNibble d
    match a.toNat, b.toNat with
    | 0x6, 0x9 =>
      if c.toNat < 8 then return .ldcInd (RegNum.ofNibble c) else return .stcInd (RegNum.ofNibble c)
    | 0x6, 0xF =>
      let disp ← wordField rest
      if c.toNat < 8 then return .ldcDisp16 disp (RegNum.ofNibble c)
      else return .stcDisp16 disp (RegNum.ofNibble c)
    | 0x6, 0xD =>
      if c.toNat < 8 then return .ldcPostInc (RegNum.ofNibble c)
      else return .stcPreDec (RegNum.ofNibble c)
    | 0x6, 0xB =>
      match c.toNat with
      | 0x0 => return .ldcAbs16 (← wordField rest)
      | 0x2 => return .ldcAbs24 (← paddedField rest)
      | 0x8 => return .stcAbs16 (← wordField rest)
      | 0xA => return .stcAbs24 (← paddedField rest)
      | _ => .error .unowned
    | 0x7, 0x8 =>
      let ern ← lowReg c
      match rest with
      | e :: f :: g :: h :: rest2 =>
        zeroNibble h
        match e.toNat, f.toNat, g.toNat with
        | 0x6, 0xB, 0x2 => return .ldcDisp24 (← paddedField rest2) ern
        | 0x6, 0xB, 0xA => return .stcDisp24 (← paddedField rest2) ern
        | _, _, _ => .error .unowned
      | _ => .error .truncated
    | _, _ => .error .unowned
  | _ => .error .truncated

/-- After the prefix 01 C0: MULXS (R121). -/
def decodeMulxs : List Nibble → DecodeResult Instr
  | a :: b :: c :: d :: _ =>
    match a.toNat, b.toNat with
    | 0x5, 0x0 => .ok (.mulxsB (Reg8.ofNibble c) (Reg16.ofNibble d))
    | 0x5, 0x2 => do return .mulxsW (Reg16.ofNibble c) (← lowReg d)
    | _, _ => .error .unowned
  | _ => .error .truncated

/-- After the prefix 01 D0: DIVXS (R121). -/
def decodeDivxs : List Nibble → DecodeResult Instr
  | a :: b :: c :: d :: _ =>
    match a.toNat, b.toNat with
    | 0x5, 0x1 => .ok (.divxsB (Reg8.ofNibble c) (Reg16.ofNibble d))
    | 0x5, 0x3 => do return .divxsW (Reg16.ofNibble c) (← lowReg d)
    | _, _ => .error .unowned
  | _ => .error .truncated

/-- After the prefix 01 F0: OR.L, XOR.L, AND.L (R121). -/
def decodeLogicL : List Nibble → DecodeResult Instr
  | a :: b :: c :: d :: _ => do
    match a.toNat, b.toNat with
    | 0x6, 0x4 => return .orLReg (← lowReg c) (← lowReg d)
    | 0x6, 0x5 => return .xorLReg (← lowReg c) (← lowReg d)
    | 0x6, 0x6 => return .andLReg (← lowReg c) (← lowReg d)
    | _, _ => .error .unowned
  | _ => .error .truncated

/-- First byte 01: the prefix words and SLEEP; the second byte's low nibble must be 0 (R121). -/
def decodePrefixed (c d : Nibble) (rest : List Nibble) : DecodeResult Instr := do
  zeroNibble d
  match c.toNat with
  | 0x0 => decodeMovL rest
  | 0x4 => decodeCcrMemory rest
  | 0x8 => return .sleep
  | 0xC => decodeMulxs rest
  | 0xD => decodeDivxs rest
  | 0xF => decodeLogicL rest
  | _ => .error .unowned

/-- First bytes 00 to 0F (R119). -/
def decodeRow0 (b c d : Nibble) (rest : List Nibble) : DecodeResult Instr :=
  match b.toNat with
  | 0x0 => do zeroNibble c; zeroNibble d; return .nop
  | 0x1 => decodePrefixed c d rest
  | 0x2 => do zeroNibble c; return .stcReg (Reg8.ofNibble d)
  | 0x3 => do zeroNibble c; return .ldcReg (Reg8.ofNibble d)
  | 0x4 => .ok (.orc (byteOf c d))
  | 0x5 => .ok (.xorc (byteOf c d))
  | 0x6 => .ok (.andc (byteOf c d))
  | 0x7 => .ok (.ldcImm (byteOf c d))
  | 0x8 => .ok (.addBReg (Reg8.ofNibble c) (Reg8.ofNibble d))
  | 0x9 => .ok (.addWReg (Reg16.ofNibble c) (Reg16.ofNibble d))
  | 0xA => decodeByteOrLong .incB .addLReg c d
  | 0xB => decodeAddsInc c d
  | 0xC => .ok (.movBRegReg (Reg8.ofNibble c) (Reg8.ofNibble d))
  | 0xD => .ok (.movWRegReg (Reg16.ofNibble c) (Reg16.ofNibble d))
  | 0xE => .ok (.addxReg (Reg8.ofNibble c) (Reg8.ofNibble d))
  | _ => decodeByteOrLong .daa .movLRegReg c d

/-- First bytes 10 to 1F (R119). -/
def decodeRow1 (b c d : Nibble) : DecodeResult Instr :=
  match b.toNat with
  | 0x0 | 0x1 | 0x2 | 0x3 => decodeShift b c d
  | 0x4 => .ok (.orBReg (Reg8.ofNibble c) (Reg8.ofNibble d))
  | 0x5 => .ok (.xorBReg (Reg8.ofNibble c) (Reg8.ofNibble d))
  | 0x6 => .ok (.andBReg (Reg8.ofNibble c) (Reg8.ofNibble d))
  | 0x7 => decodeUnary c d
  | 0x8 => .ok (.subBReg (Reg8.ofNibble c) (Reg8.ofNibble d))
  | 0x9 => .ok (.subWReg (Reg16.ofNibble c) (Reg16.ofNibble d))
  | 0xA => decodeByteOrLong .decB .subLReg c d
  | 0xB => decodeSubsDec c d
  | 0xC => .ok (.cmpBReg (Reg8.ofNibble c) (Reg8.ofNibble d))
  | 0xD => .ok (.cmpWReg (Reg16.ofNibble c) (Reg16.ofNibble d))
  | 0xE => .ok (.subxReg (Reg8.ofNibble c) (Reg8.ofNibble d))
  | _ => decodeByteOrLong .das .cmpLReg c d

/-- First bytes 50 to 5F: multiply, divide, branches, returns, TRAPA (R119). -/
def decodeRow5 (b c d : Nibble) (rest : List Nibble) : DecodeResult Instr :=
  match b.toNat with
  | 0x0 => .ok (.mulxuB (Reg8.ofNibble c) (Reg16.ofNibble d))
  | 0x1 => .ok (.divxuB (Reg8.ofNibble c) (Reg16.ofNibble d))
  | 0x2 => do return .mulxuW (Reg16.ofNibble c) (← lowReg d)
  | 0x3 => do return .divxuW (Reg16.ofNibble c) (← lowReg d)
  | 0x4 => if c.toNat = 7 ∧ d.toNat = 0 then .ok .rts else .error .unowned
  | 0x5 => .ok (.bsr8 (byteOf c d))
  | 0x6 => if c.toNat = 7 ∧ d.toNat = 0 then .ok .rte else .error .unowned
  | 0x7 => do
    zeroNibble d
    if c.toNat < 4 then return .trapa (BitVec.ofNat 2 c.toNat) else .error .fixedBits
  | 0x8 => do zeroNibble d; return decodeBcc c (.d16 (← wordField rest))
  | 0x9 => do zeroNibble d; return .jmpInd (← lowReg c)
  | 0xA =>
    match rest with
    | e :: f :: g :: h :: _ => .ok (.jmpAbs24 (addrOf c d e f g h))
    | _ => .error .truncated
  | 0xB => .ok (.jmpMemInd (byteOf c d))
  | 0xC => do zeroNibble c; zeroNibble d; return .bsr16 (← wordField rest)
  | 0xD => do zeroNibble d; return .jsrInd (← lowReg c)
  | 0xE =>
    match rest with
    | e :: f :: g :: h :: _ => .ok (.jsrAbs24 (addrOf c d e f g h))
    | _ => .error .truncated
  | _ => .ok (.jsrMemInd (byteOf c d))

/-- First bytes 6A and 6B, second level (R120): absolute addresses, MOVFPE and MOVTPE. -/
def decodeMovBAbs (c d : Nibble) (rest : List Nibble) : DecodeResult Instr := do
  let r := Reg8.ofNibble d
  match c.toNat with
  | 0x0 => return .movBLoadAbs16 (← wordField rest) r
  | 0x2 => return .movBLoadAbs24 (← paddedField rest) r
  | 0x4 => return .movfpe (← wordField rest) r
  | 0x8 => return .movBStoreAbs16 r (← wordField rest)
  | 0xA => return .movBStoreAbs24 r (← paddedField rest)
  | 0xC => return .movtpe r (← wordField rest)
  | _ => .error .unowned

/-- First byte 6B, second level (R120). -/
def decodeMovWAbs (c d : Nibble) (rest : List Nibble) : DecodeResult Instr := do
  let r := Reg16.ofNibble d
  match c.toNat with
  | 0x0 => return .movWLoadAbs16 (← wordField rest) r
  | 0x2 => return .movWLoadAbs24 (← paddedField rest) r
  | 0x8 => return .movWStoreAbs16 r (← wordField rest)
  | 0xA => return .movWStoreAbs24 r (← paddedField rest)
  | _ => .error .unowned

/-- First bytes 60 to 6F: bit instructions with the bit number in a register, word logic, MOV with memory (R119). -/
def decodeRow6 (b c d : Nibble) (rest : List Nibble) : DecodeResult Instr :=
  match b.toNat with
  | 0x0 => .ok (.bsetRegReg (Reg8.ofNibble c) (Reg8.ofNibble d))
  | 0x1 => .ok (.bnotRegReg (Reg8.ofNibble c) (Reg8.ofNibble d))
  | 0x2 => .ok (.bclrRegReg (Reg8.ofNibble c) (Reg8.ofNibble d))
  | 0x3 => .ok (.btstRegReg (Reg8.ofNibble c) (Reg8.ofNibble d))
  | 0x4 => .ok (.orWReg (Reg16.ofNibble c) (Reg16.ofNibble d))
  | 0x5 => .ok (.xorWReg (Reg16.ofNibble c) (Reg16.ofNibble d))
  | 0x6 => .ok (.andWReg (Reg16.ofNibble c) (Reg16.ofNibble d))
  | 0x7 => .ok (if c.toNat < 8 then .bstReg (bitOf c) (Reg8.ofNibble d) else .bistReg (bitOf c) (Reg8.ofNibble d))
  | 0x8 =>
    .ok (if c.toNat < 8 then .movBLoadInd (RegNum.ofNibble c) (Reg8.ofNibble d)
      else .movBStoreInd (Reg8.ofNibble d) (RegNum.ofNibble c))
  | 0x9 =>
    .ok (if c.toNat < 8 then .movWLoadInd (RegNum.ofNibble c) (Reg16.ofNibble d)
      else .movWStoreInd (Reg16.ofNibble d) (RegNum.ofNibble c))
  | 0xA => decodeMovBAbs c d rest
  | 0xB => decodeMovWAbs c d rest
  | 0xC =>
    .ok (if c.toNat < 8 then .movBLoadPostInc (RegNum.ofNibble c) (Reg8.ofNibble d)
      else .movBStorePreDec (Reg8.ofNibble d) (RegNum.ofNibble c))
  | 0xD =>
    .ok (if c.toNat < 8 then
        if c.toNat = 7 then .popW (Reg16.ofNibble d) else .movWLoadPostInc (RegNum.ofNibble c) (Reg16.ofNibble d)
      else if c.toNat = 15 then .pushW (Reg16.ofNibble d)
      else .movWStorePreDec (Reg16.ofNibble d) (RegNum.ofNibble c))
  | 0xE => do
    let disp ← wordField rest
    if c.toNat < 8 then return .movBLoadDisp16 disp (RegNum.ofNibble c) (Reg8.ofNibble d)
    else return .movBStoreDisp16 (Reg8.ofNibble d) disp (RegNum.ofNibble c)
  | _ => do
    let disp ← wordField rest
    if c.toNat < 8 then return .movWLoadDisp16 disp (RegNum.ofNibble c) (Reg16.ofNibble d)
    else return .movWStoreDisp16 (Reg16.ofNibble d) disp (RegNum.ofNibble c)

/-- First byte 78: MOV.B and MOV.W with @(d:24,ERn) (R122). -/
def decodeMovDisp24 (c d : Nibble) : List Nibble → DecodeResult Instr
  | e :: f :: g :: h :: rest => do
    zeroNibble d
    let ern ← lowReg c
    match e.toNat, f.toNat, g.toNat with
    | 0x6, 0xA, 0x2 => return .movBLoadDisp24 (← paddedField rest) ern (Reg8.ofNibble h)
    | 0x6, 0xA, 0xA => return .movBStoreDisp24 (Reg8.ofNibble h) (← paddedField rest) ern
    | 0x6, 0xB, 0x2 => return .movWLoadDisp24 (← paddedField rest) ern (Reg16.ofNibble h)
    | 0x6, 0xB, 0xA => return .movWStoreDisp24 (Reg16.ofNibble h) (← paddedField rest) ern
    | _, _, _ => .error .unowned
  | _ => .error .truncated

/-- The second word of a bit instruction on @ERd that only reads (first byte 7C, R123). -/
def decodeBitReadInd (erd : RegNum) : List Nibble → DecodeResult Instr
  | e :: f :: g :: h :: _ => do
    zeroNibble h
    match e.toNat, f.toNat with
    | 0x6, 0x3 => return .btstRegInd (Reg8.ofNibble g) erd
    | 0x7, 0x3 => return .btstImmInd (← lowBit g) erd
    | 0x7, 0x4 => return if g.toNat < 8 then .borInd (bitOf g) erd else .biorInd (bitOf g) erd
    | 0x7, 0x5 => return if g.toNat < 8 then .bxorInd (bitOf g) erd else .bixorInd (bitOf g) erd
    | 0x7, 0x6 => return if g.toNat < 8 then .bandInd (bitOf g) erd else .biandInd (bitOf g) erd
    | 0x7, 0x7 => return if g.toNat < 8 then .bldInd (bitOf g) erd else .bildInd (bitOf g) erd
    | _, _ => .error .unowned
  | _ => .error .truncated

/-- The second word of a bit instruction on @ERd that writes (first byte 7D, R123). -/
def decodeBitWriteInd (erd : RegNum) : List Nibble → DecodeResult Instr
  | e :: f :: g :: h :: _ => do
    zeroNibble h
    match e.toNat, f.toNat with
    | 0x6, 0x0 => return .bsetRegInd (Reg8.ofNibble g) erd
    | 0x6, 0x1 => return .bnotRegInd (Reg8.ofNibble g) erd
    | 0x6, 0x2 => return .bclrRegInd (Reg8.ofNibble g) erd
    | 0x6, 0x7 => return if g.toNat < 8 then .bstInd (bitOf g) erd else .bistInd (bitOf g) erd
    | 0x7, 0x0 => return .bsetImmInd (← lowBit g) erd
    | 0x7, 0x1 => return .bnotImmInd (← lowBit g) erd
    | 0x7, 0x2 => return .bclrImmInd (← lowBit g) erd
    | _, _ => .error .unowned
  | _ => .error .truncated

/-- The second word of a bit instruction on @aa:8 that only reads (first byte 7E, R123). -/
def decodeBitReadAbs8 (aa : BitVec 8) : List Nibble → DecodeResult Instr
  | e :: f :: g :: h :: _ => do
    zeroNibble h
    match e.toNat, f.toNat with
    | 0x6, 0x3 => return .btstRegAbs8 (Reg8.ofNibble g) aa
    | 0x7, 0x3 => return .btstImmAbs8 (← lowBit g) aa
    | 0x7, 0x4 => return if g.toNat < 8 then .borAbs8 (bitOf g) aa else .biorAbs8 (bitOf g) aa
    | 0x7, 0x5 => return if g.toNat < 8 then .bxorAbs8 (bitOf g) aa else .bixorAbs8 (bitOf g) aa
    | 0x7, 0x6 => return if g.toNat < 8 then .bandAbs8 (bitOf g) aa else .biandAbs8 (bitOf g) aa
    | 0x7, 0x7 => return if g.toNat < 8 then .bldAbs8 (bitOf g) aa else .bildAbs8 (bitOf g) aa
    | _, _ => .error .unowned
  | _ => .error .truncated

/-- The second word of a bit instruction on @aa:8 that writes (first byte 7F, R123). -/
def decodeBitWriteAbs8 (aa : BitVec 8) : List Nibble → DecodeResult Instr
  | e :: f :: g :: h :: _ => do
    zeroNibble h
    match e.toNat, f.toNat with
    | 0x6, 0x0 => return .bsetRegAbs8 (Reg8.ofNibble g) aa
    | 0x6, 0x1 => return .bnotRegAbs8 (Reg8.ofNibble g) aa
    | 0x6, 0x2 => return .bclrRegAbs8 (Reg8.ofNibble g) aa
    | 0x6, 0x7 => return if g.toNat < 8 then .bstAbs8 (bitOf g) aa else .bistAbs8 (bitOf g) aa
    | 0x7, 0x0 => return .bsetImmAbs8 (← lowBit g) aa
    | 0x7, 0x1 => return .bnotImmAbs8 (← lowBit g) aa
    | 0x7, 0x2 => return .bclrImmAbs8 (← lowBit g) aa
    | _, _ => .error .unowned
  | _ => .error .truncated

/-- First byte 7B: EEPMOV, all 32 bits fixed (R350, R351). -/
def decodeEepmov (c d : Nibble) : List Nibble → DecodeResult Instr
  | e :: f :: g :: h :: _ =>
    if e.toNat = 0x5 ∧ f.toNat = 0x9 ∧ g.toNat = 0x8 ∧ h.toNat = 0xF then
      match c.toNat, d.toNat with
      | 0x5, 0xC => .ok .eepmovB
      | 0xD, 0x4 => .ok .eepmovW
      | _, _ => .error .unowned
    else .error .unowned
  | _ => .error .truncated

/-- First bytes 70 to 7F: bit instructions with the bit number in the code, word and longword immediates, EEPMOV
(R119). -/
def decodeRow7 (b c d : Nibble) (rest : List Nibble) : DecodeResult Instr :=
  match b.toNat with
  | 0x0 => do return .bsetImmReg (← lowBit c) (Reg8.ofNibble d)
  | 0x1 => do return .bnotImmReg (← lowBit c) (Reg8.ofNibble d)
  | 0x2 => do return .bclrImmReg (← lowBit c) (Reg8.ofNibble d)
  | 0x3 => do return .btstImmReg (← lowBit c) (Reg8.ofNibble d)
  | 0x4 => .ok (if c.toNat < 8 then .borReg (bitOf c) (Reg8.ofNibble d) else .biorReg (bitOf c) (Reg8.ofNibble d))
  | 0x5 => .ok (if c.toNat < 8 then .bxorReg (bitOf c) (Reg8.ofNibble d) else .bixorReg (bitOf c) (Reg8.ofNibble d))
  | 0x6 => .ok (if c.toNat < 8 then .bandReg (bitOf c) (Reg8.ofNibble d) else .biandReg (bitOf c) (Reg8.ofNibble d))
  | 0x7 => .ok (if c.toNat < 8 then .bldReg (bitOf c) (Reg8.ofNibble d) else .bildReg (bitOf c) (Reg8.ofNibble d))
  | 0x8 => decodeMovDisp24 c d rest
  | 0x9 => decodeWordImm c d rest
  | 0xA => decodeLongImm c d rest
  | 0xB => decodeEepmov c d rest
  | 0xC => do zeroNibble d; decodeBitReadInd (← lowReg c) rest
  | 0xD => do zeroNibble d; decodeBitWriteInd (← lowReg c) rest
  | 0xE => decodeBitReadAbs8 (byteOf c d) rest
  | _ => decodeBitWriteAbs8 (byteOf c d) rest

/-- The instruction at the head of a run of nibbles, by the first-byte map (R119). -/
def decodeNibbles : List Nibble → DecodeResult Instr
  | a :: b :: c :: d :: rest =>
    match a.toNat with
    | 0x0 => decodeRow0 b c d rest
    | 0x1 => decodeRow1 b c d
    | 0x2 => .ok (.movBLoadAbs8 (byteOf c d) (Reg8.ofNibble b))
    | 0x3 => .ok (.movBStoreAbs8 (Reg8.ofNibble b) (byteOf c d))
    | 0x4 => .ok (decodeBcc b (.d8 (byteOf c d)))
    | 0x5 => decodeRow5 b c d rest
    | 0x6 => decodeRow6 b c d rest
    | 0x7 => decodeRow7 b c d rest
    | 0x8 => .ok (.addBImm (byteOf c d) (Reg8.ofNibble b))
    | 0x9 => .ok (.addxImm (byteOf c d) (Reg8.ofNibble b))
    | 0xA => .ok (.cmpBImm (byteOf c d) (Reg8.ofNibble b))
    | 0xB => .ok (.subxImm (byteOf c d) (Reg8.ofNibble b))
    | 0xC => .ok (.orBImm (byteOf c d) (Reg8.ofNibble b))
    | 0xD => .ok (.xorBImm (byteOf c d) (Reg8.ofNibble b))
    | 0xE => .ok (.andBImm (byteOf c d) (Reg8.ofNibble b))
    | _ => .ok (.movBImm (byteOf c d) (Reg8.ofNibble b))
  | _ => .error .truncated

/-! ### The encoder, row by row of the opcode table -/

/-- A byte as its two nibbles, upper first. -/
def nibbles8 (v : BitVec 8) : List Nibble := [v.extractLsb' 4 4, v.extractLsb' 0 4]

/-- A word as its four nibbles, upper first. -/
def nibbles16 (v : BitVec 16) : List Nibble := nibbles8 (v.extractLsb' 8 8) ++ nibbles8 (v.extractLsb' 0 8)

/-- A 24-bit field as its six nibbles, upper first. -/
def nibbles24 (v : BitVec 24) : List Nibble := nibbles8 (v.extractLsb' 16 8) ++ nibbles16 (v.extractLsb' 0 16)

/-- A longword as its eight nibbles, upper first. -/
def nibbles32 (v : BitVec 32) : List Nibble := nibbles16 (v.extractLsb' 16 16) ++ nibbles16 (v.extractLsb' 0 16)

/-- The encoding of each form, as opcode_table.json and the Encoding part of its rule write it. -/
def encodeNibbles : Instr → List Nibble
  | .movBRegReg rs rd => [0x0, 0xC, rs.nibble, rd.nibble]
  | .movWRegReg rs rd => [0x0, 0xD, rs.nibble, rd.nibble]
  | .movLRegReg ers erd => [0x0, 0xF, ers.high, erd.low]
  | .movBImm imm rd => [0xF, rd.nibble] ++ nibbles8 imm
  | .movWImm imm rd => [0x7, 0x9, 0x0, rd.nibble] ++ nibbles16 imm
  | .movLImm imm erd => [0x7, 0xA, 0x0, erd.low] ++ nibbles32 imm
  | .movBLoadInd ers rd => [0x6, 0x8, ers.low, rd.nibble]
  | .movBLoadDisp16 disp ers rd => [0x6, 0xE, ers.low, rd.nibble] ++ nibbles16 disp
  | .movBLoadDisp24 disp ers rd => [0x7, 0x8, ers.low, 0x0, 0x6, 0xA, 0x2, rd.nibble, 0x0, 0x0] ++ nibbles24 disp
  | .movBLoadPostInc ers rd => [0x6, 0xC, ers.low, rd.nibble]
  | .movBLoadAbs8 aa rd => [0x2, rd.nibble] ++ nibbles8 aa
  | .movBLoadAbs16 aa rd => [0x6, 0xA, 0x0, rd.nibble] ++ nibbles16 aa
  | .movBLoadAbs24 aa rd => [0x6, 0xA, 0x2, rd.nibble, 0x0, 0x0] ++ nibbles24 aa
  | .movWLoadInd ers rd => [0x6, 0x9, ers.low, rd.nibble]
  | .movWLoadDisp16 disp ers rd => [0x6, 0xF, ers.low, rd.nibble] ++ nibbles16 disp
  | .movWLoadDisp24 disp ers rd => [0x7, 0x8, ers.low, 0x0, 0x6, 0xB, 0x2, rd.nibble, 0x0, 0x0] ++ nibbles24 disp
  | .movWLoadPostInc ers rd => [0x6, 0xD, ers.low, rd.nibble]
  | .movWLoadAbs16 aa rd => [0x6, 0xB, 0x0, rd.nibble] ++ nibbles16 aa
  | .movWLoadAbs24 aa rd => [0x6, 0xB, 0x2, rd.nibble, 0x0, 0x0] ++ nibbles24 aa
  | .movLLoadInd ers erd => [0x0, 0x1, 0x0, 0x0, 0x6, 0x9, ers.low, erd.low]
  | .movLLoadDisp16 disp ers erd => [0x0, 0x1, 0x0, 0x0, 0x6, 0xF, ers.low, erd.low] ++ nibbles16 disp
  | .movLLoadDisp24 disp ers erd => [0x0, 0x1, 0x0, 0x0, 0x7, 0x8, ers.low, 0x0, 0x6, 0xB, 0x2, erd.low, 0x0, 0x0] ++ nibbles24 disp
  | .movLLoadPostInc ers erd => [0x0, 0x1, 0x0, 0x0, 0x6, 0xD, ers.low, erd.low]
  | .movLLoadAbs16 aa erd => [0x0, 0x1, 0x0, 0x0, 0x6, 0xB, 0x0, erd.low] ++ nibbles16 aa
  | .movLLoadAbs24 aa erd => [0x0, 0x1, 0x0, 0x0, 0x6, 0xB, 0x2, erd.low, 0x0, 0x0] ++ nibbles24 aa
  | .movBStoreInd rs erd => [0x6, 0x8, erd.high, rs.nibble]
  | .movBStoreDisp16 rs disp erd => [0x6, 0xE, erd.high, rs.nibble] ++ nibbles16 disp
  | .movBStoreDisp24 rs disp erd => [0x7, 0x8, erd.low, 0x0, 0x6, 0xA, 0xA, rs.nibble, 0x0, 0x0] ++ nibbles24 disp
  | .movBStorePreDec rs erd => [0x6, 0xC, erd.high, rs.nibble]
  | .movBStoreAbs8 rs aa => [0x3, rs.nibble] ++ nibbles8 aa
  | .movBStoreAbs16 rs aa => [0x6, 0xA, 0x8, rs.nibble] ++ nibbles16 aa
  | .movBStoreAbs24 rs aa => [0x6, 0xA, 0xA, rs.nibble, 0x0, 0x0] ++ nibbles24 aa
  | .movWStoreInd rs erd => [0x6, 0x9, erd.high, rs.nibble]
  | .movWStoreDisp16 rs disp erd => [0x6, 0xF, erd.high, rs.nibble] ++ nibbles16 disp
  | .movWStoreDisp24 rs disp erd => [0x7, 0x8, erd.low, 0x0, 0x6, 0xB, 0xA, rs.nibble, 0x0, 0x0] ++ nibbles24 disp
  | .movWStorePreDec rs erd => [0x6, 0xD, erd.high, rs.nibble]
  | .movWStoreAbs16 rs aa => [0x6, 0xB, 0x8, rs.nibble] ++ nibbles16 aa
  | .movWStoreAbs24 rs aa => [0x6, 0xB, 0xA, rs.nibble, 0x0, 0x0] ++ nibbles24 aa
  | .movLStoreInd ers erd => [0x0, 0x1, 0x0, 0x0, 0x6, 0x9, erd.high, ers.low]
  | .movLStoreDisp16 ers disp erd => [0x0, 0x1, 0x0, 0x0, 0x6, 0xF, erd.high, ers.low] ++ nibbles16 disp
  | .movLStoreDisp24 ers disp erd => [0x0, 0x1, 0x0, 0x0, 0x7, 0x8, erd.high, 0x0, 0x6, 0xB, 0xA, ers.low, 0x0, 0x0] ++ nibbles24 disp
  | .movLStorePreDec ers erd => [0x0, 0x1, 0x0, 0x0, 0x6, 0xD, erd.high, ers.low]
  | .movLStoreAbs16 ers aa => [0x0, 0x1, 0x0, 0x0, 0x6, 0xB, 0x8, ers.low] ++ nibbles16 aa
  | .movLStoreAbs24 ers aa => [0x0, 0x1, 0x0, 0x0, 0x6, 0xB, 0xA, ers.low, 0x0, 0x0] ++ nibbles24 aa
  | .movfpe aa rd => [0x6, 0xA, 0x4, rd.nibble] ++ nibbles16 aa
  | .movtpe rs aa => [0x6, 0xA, 0xC, rs.nibble] ++ nibbles16 aa
  | .popW rd => [0x6, 0xD, 0x7, rd.nibble]
  | .popL erd => [0x0, 0x1, 0x0, 0x0, 0x6, 0xD, 0x7, erd.low]
  | .pushW rs => [0x6, 0xD, 0xF, rs.nibble]
  | .pushL ers => [0x0, 0x1, 0x0, 0x0, 0x6, 0xD, 0xF, ers.low]
  | .addBImm imm rd => [0x8, rd.nibble] ++ nibbles8 imm
  | .addBReg rs rd => [0x0, 0x8, rs.nibble, rd.nibble]
  | .addWImm imm rd => [0x7, 0x9, 0x1, rd.nibble] ++ nibbles16 imm
  | .addWReg rs rd => [0x0, 0x9, rs.nibble, rd.nibble]
  | .addLImm imm erd => [0x7, 0xA, 0x1, erd.low] ++ nibbles32 imm
  | .addLReg ers erd => [0x0, 0xA, ers.high, erd.low]
  | .subBReg rs rd => [0x1, 0x8, rs.nibble, rd.nibble]
  | .subWImm imm rd => [0x7, 0x9, 0x3, rd.nibble] ++ nibbles16 imm
  | .subWReg rs rd => [0x1, 0x9, rs.nibble, rd.nibble]
  | .subLImm imm erd => [0x7, 0xA, 0x3, erd.low] ++ nibbles32 imm
  | .subLReg ers erd => [0x1, 0xA, ers.high, erd.low]
  | .cmpBImm imm rd => [0xA, rd.nibble] ++ nibbles8 imm
  | .cmpBReg rs rd => [0x1, 0xC, rs.nibble, rd.nibble]
  | .cmpWImm imm rd => [0x7, 0x9, 0x2, rd.nibble] ++ nibbles16 imm
  | .cmpWReg rs rd => [0x1, 0xD, rs.nibble, rd.nibble]
  | .cmpLImm imm erd => [0x7, 0xA, 0x2, erd.low] ++ nibbles32 imm
  | .cmpLReg ers erd => [0x1, 0xF, ers.high, erd.low]
  | .negB rd => [0x1, 0x7, 0x8, rd.nibble]
  | .negW rd => [0x1, 0x7, 0x9, rd.nibble]
  | .negL erd => [0x1, 0x7, 0xB, erd.low]
  | .addxImm imm rd => [0x9, rd.nibble] ++ nibbles8 imm
  | .addxReg rs rd => [0x0, 0xE, rs.nibble, rd.nibble]
  | .subxImm imm rd => [0xB, rd.nibble] ++ nibbles8 imm
  | .subxReg rs rd => [0x1, 0xE, rs.nibble, rd.nibble]
  | .incB rd => [0x0, 0xA, 0x0, rd.nibble]
  | .incW .one rd => [0x0, 0xB, 0x5, rd.nibble]
  | .incW .two rd => [0x0, 0xB, 0xD, rd.nibble]
  | .incL .one erd => [0x0, 0xB, 0x7, erd.low]
  | .incL .two erd => [0x0, 0xB, 0xF, erd.low]
  | .decB rd => [0x1, 0xA, 0x0, rd.nibble]
  | .decW .one rd => [0x1, 0xB, 0x5, rd.nibble]
  | .decW .two rd => [0x1, 0xB, 0xD, rd.nibble]
  | .decL .one erd => [0x1, 0xB, 0x7, erd.low]
  | .decL .two erd => [0x1, 0xB, 0xF, erd.low]
  | .adds .one erd => [0x0, 0xB, 0x0, erd.low]
  | .adds .two erd => [0x0, 0xB, 0x8, erd.low]
  | .adds .four erd => [0x0, 0xB, 0x9, erd.low]
  | .subs .one erd => [0x1, 0xB, 0x0, erd.low]
  | .subs .two erd => [0x1, 0xB, 0x8, erd.low]
  | .subs .four erd => [0x1, 0xB, 0x9, erd.low]
  | .mulxuB rs rd => [0x5, 0x0, rs.nibble, rd.nibble]
  | .mulxuW rs erd => [0x5, 0x2, rs.nibble, erd.low]
  | .mulxsB rs rd => [0x0, 0x1, 0xC, 0x0, 0x5, 0x0, rs.nibble, rd.nibble]
  | .mulxsW rs erd => [0x0, 0x1, 0xC, 0x0, 0x5, 0x2, rs.nibble, erd.low]
  | .daa rd => [0x0, 0xF, 0x0, rd.nibble]
  | .das rd => [0x1, 0xF, 0x0, rd.nibble]
  | .divxuB rs rd => [0x5, 0x1, rs.nibble, rd.nibble]
  | .divxuW rs erd => [0x5, 0x3, rs.nibble, erd.low]
  | .divxsB rs rd => [0x0, 0x1, 0xD, 0x0, 0x5, 0x1, rs.nibble, rd.nibble]
  | .divxsW rs erd => [0x0, 0x1, 0xD, 0x0, 0x5, 0x3, rs.nibble, erd.low]
  | .extsW rd => [0x1, 0x7, 0xD, rd.nibble]
  | .extsL erd => [0x1, 0x7, 0xF, erd.low]
  | .extuW rd => [0x1, 0x7, 0x5, rd.nibble]
  | .extuL erd => [0x1, 0x7, 0x7, erd.low]
  | .andBImm imm rd => [0xE, rd.nibble] ++ nibbles8 imm
  | .andBReg rs rd => [0x1, 0x6, rs.nibble, rd.nibble]
  | .andWImm imm rd => [0x7, 0x9, 0x6, rd.nibble] ++ nibbles16 imm
  | .andWReg rs rd => [0x6, 0x6, rs.nibble, rd.nibble]
  | .andLImm imm erd => [0x7, 0xA, 0x6, erd.low] ++ nibbles32 imm
  | .andLReg ers erd => [0x0, 0x1, 0xF, 0x0, 0x6, 0x6, ers.low, erd.low]
  | .orBImm imm rd => [0xC, rd.nibble] ++ nibbles8 imm
  | .orBReg rs rd => [0x1, 0x4, rs.nibble, rd.nibble]
  | .orWImm imm rd => [0x7, 0x9, 0x4, rd.nibble] ++ nibbles16 imm
  | .orWReg rs rd => [0x6, 0x4, rs.nibble, rd.nibble]
  | .orLImm imm erd => [0x7, 0xA, 0x4, erd.low] ++ nibbles32 imm
  | .orLReg ers erd => [0x0, 0x1, 0xF, 0x0, 0x6, 0x4, ers.low, erd.low]
  | .xorBImm imm rd => [0xD, rd.nibble] ++ nibbles8 imm
  | .xorBReg rs rd => [0x1, 0x5, rs.nibble, rd.nibble]
  | .xorWImm imm rd => [0x7, 0x9, 0x5, rd.nibble] ++ nibbles16 imm
  | .xorWReg rs rd => [0x6, 0x5, rs.nibble, rd.nibble]
  | .xorLImm imm erd => [0x7, 0xA, 0x5, erd.low] ++ nibbles32 imm
  | .xorLReg ers erd => [0x0, 0x1, 0xF, 0x0, 0x6, 0x5, ers.low, erd.low]
  | .notB rd => [0x1, 0x7, 0x0, rd.nibble]
  | .notW rd => [0x1, 0x7, 0x1, rd.nibble]
  | .notL erd => [0x1, 0x7, 0x3, erd.low]
  | .shalB rd => [0x1, 0x0, 0x8, rd.nibble]
  | .shalW rd => [0x1, 0x0, 0x9, rd.nibble]
  | .shalL erd => [0x1, 0x0, 0xB, erd.low]
  | .sharB rd => [0x1, 0x1, 0x8, rd.nibble]
  | .sharW rd => [0x1, 0x1, 0x9, rd.nibble]
  | .sharL erd => [0x1, 0x1, 0xB, erd.low]
  | .shllB rd => [0x1, 0x0, 0x0, rd.nibble]
  | .shllW rd => [0x1, 0x0, 0x1, rd.nibble]
  | .shllL erd => [0x1, 0x0, 0x3, erd.low]
  | .shlrB rd => [0x1, 0x1, 0x0, rd.nibble]
  | .shlrW rd => [0x1, 0x1, 0x1, rd.nibble]
  | .shlrL erd => [0x1, 0x1, 0x3, erd.low]
  | .rotlB rd => [0x1, 0x2, 0x8, rd.nibble]
  | .rotlW rd => [0x1, 0x2, 0x9, rd.nibble]
  | .rotlL erd => [0x1, 0x2, 0xB, erd.low]
  | .rotrB rd => [0x1, 0x3, 0x8, rd.nibble]
  | .rotrW rd => [0x1, 0x3, 0x9, rd.nibble]
  | .rotrL erd => [0x1, 0x3, 0xB, erd.low]
  | .rotxlB rd => [0x1, 0x2, 0x0, rd.nibble]
  | .rotxlW rd => [0x1, 0x2, 0x1, rd.nibble]
  | .rotxlL erd => [0x1, 0x2, 0x3, erd.low]
  | .rotxrB rd => [0x1, 0x3, 0x0, rd.nibble]
  | .rotxrW rd => [0x1, 0x3, 0x1, rd.nibble]
  | .rotxrL erd => [0x1, 0x3, 0x3, erd.low]
  | .bsetImmReg bit rd => [0x7, 0x0, bitLow bit, rd.nibble]
  | .bsetImmInd bit erd => [0x7, 0xD, erd.low, 0x0, 0x7, 0x0, bitLow bit, 0x0]
  | .bsetImmAbs8 bit aa => [0x7, 0xF] ++ nibbles8 aa ++ [0x7, 0x0, bitLow bit, 0x0]
  | .bsetRegReg rn rd => [0x6, 0x0, rn.nibble, rd.nibble]
  | .bsetRegInd rn erd => [0x7, 0xD, erd.low, 0x0, 0x6, 0x0, rn.nibble, 0x0]
  | .bsetRegAbs8 rn aa => [0x7, 0xF] ++ nibbles8 aa ++ [0x6, 0x0, rn.nibble, 0x0]
  | .bclrImmReg bit rd => [0x7, 0x2, bitLow bit, rd.nibble]
  | .bclrImmInd bit erd => [0x7, 0xD, erd.low, 0x0, 0x7, 0x2, bitLow bit, 0x0]
  | .bclrImmAbs8 bit aa => [0x7, 0xF] ++ nibbles8 aa ++ [0x7, 0x2, bitLow bit, 0x0]
  | .bclrRegReg rn rd => [0x6, 0x2, rn.nibble, rd.nibble]
  | .bclrRegInd rn erd => [0x7, 0xD, erd.low, 0x0, 0x6, 0x2, rn.nibble, 0x0]
  | .bclrRegAbs8 rn aa => [0x7, 0xF] ++ nibbles8 aa ++ [0x6, 0x2, rn.nibble, 0x0]
  | .bnotImmReg bit rd => [0x7, 0x1, bitLow bit, rd.nibble]
  | .bnotImmInd bit erd => [0x7, 0xD, erd.low, 0x0, 0x7, 0x1, bitLow bit, 0x0]
  | .bnotImmAbs8 bit aa => [0x7, 0xF] ++ nibbles8 aa ++ [0x7, 0x1, bitLow bit, 0x0]
  | .bnotRegReg rn rd => [0x6, 0x1, rn.nibble, rd.nibble]
  | .bnotRegInd rn erd => [0x7, 0xD, erd.low, 0x0, 0x6, 0x1, rn.nibble, 0x0]
  | .bnotRegAbs8 rn aa => [0x7, 0xF] ++ nibbles8 aa ++ [0x6, 0x1, rn.nibble, 0x0]
  | .btstImmReg bit rd => [0x7, 0x3, bitLow bit, rd.nibble]
  | .btstImmInd bit erd => [0x7, 0xC, erd.low, 0x0, 0x7, 0x3, bitLow bit, 0x0]
  | .btstImmAbs8 bit aa => [0x7, 0xE] ++ nibbles8 aa ++ [0x7, 0x3, bitLow bit, 0x0]
  | .btstRegReg rn rd => [0x6, 0x3, rn.nibble, rd.nibble]
  | .btstRegInd rn erd => [0x7, 0xC, erd.low, 0x0, 0x6, 0x3, rn.nibble, 0x0]
  | .btstRegAbs8 rn aa => [0x7, 0xE] ++ nibbles8 aa ++ [0x6, 0x3, rn.nibble, 0x0]
  | .bandReg bit rd => [0x7, 0x6, bitLow bit, rd.nibble]
  | .bandInd bit erd => [0x7, 0xC, erd.low, 0x0, 0x7, 0x6, bitLow bit, 0x0]
  | .bandAbs8 bit aa => [0x7, 0xE] ++ nibbles8 aa ++ [0x7, 0x6, bitLow bit, 0x0]
  | .biandReg bit rd => [0x7, 0x6, bitHigh bit, rd.nibble]
  | .biandInd bit erd => [0x7, 0xC, erd.low, 0x0, 0x7, 0x6, bitHigh bit, 0x0]
  | .biandAbs8 bit aa => [0x7, 0xE] ++ nibbles8 aa ++ [0x7, 0x6, bitHigh bit, 0x0]
  | .borReg bit rd => [0x7, 0x4, bitLow bit, rd.nibble]
  | .borInd bit erd => [0x7, 0xC, erd.low, 0x0, 0x7, 0x4, bitLow bit, 0x0]
  | .borAbs8 bit aa => [0x7, 0xE] ++ nibbles8 aa ++ [0x7, 0x4, bitLow bit, 0x0]
  | .biorReg bit rd => [0x7, 0x4, bitHigh bit, rd.nibble]
  | .biorInd bit erd => [0x7, 0xC, erd.low, 0x0, 0x7, 0x4, bitHigh bit, 0x0]
  | .biorAbs8 bit aa => [0x7, 0xE] ++ nibbles8 aa ++ [0x7, 0x4, bitHigh bit, 0x0]
  | .bxorReg bit rd => [0x7, 0x5, bitLow bit, rd.nibble]
  | .bxorInd bit erd => [0x7, 0xC, erd.low, 0x0, 0x7, 0x5, bitLow bit, 0x0]
  | .bxorAbs8 bit aa => [0x7, 0xE] ++ nibbles8 aa ++ [0x7, 0x5, bitLow bit, 0x0]
  | .bixorReg bit rd => [0x7, 0x5, bitHigh bit, rd.nibble]
  | .bixorInd bit erd => [0x7, 0xC, erd.low, 0x0, 0x7, 0x5, bitHigh bit, 0x0]
  | .bixorAbs8 bit aa => [0x7, 0xE] ++ nibbles8 aa ++ [0x7, 0x5, bitHigh bit, 0x0]
  | .bldReg bit rd => [0x7, 0x7, bitLow bit, rd.nibble]
  | .bldInd bit erd => [0x7, 0xC, erd.low, 0x0, 0x7, 0x7, bitLow bit, 0x0]
  | .bldAbs8 bit aa => [0x7, 0xE] ++ nibbles8 aa ++ [0x7, 0x7, bitLow bit, 0x0]
  | .bildReg bit rd => [0x7, 0x7, bitHigh bit, rd.nibble]
  | .bildInd bit erd => [0x7, 0xC, erd.low, 0x0, 0x7, 0x7, bitHigh bit, 0x0]
  | .bildAbs8 bit aa => [0x7, 0xE] ++ nibbles8 aa ++ [0x7, 0x7, bitHigh bit, 0x0]
  | .bstReg bit rd => [0x6, 0x7, bitLow bit, rd.nibble]
  | .bstInd bit erd => [0x7, 0xD, erd.low, 0x0, 0x6, 0x7, bitLow bit, 0x0]
  | .bstAbs8 bit aa => [0x7, 0xF] ++ nibbles8 aa ++ [0x6, 0x7, bitLow bit, 0x0]
  | .bistReg bit rd => [0x6, 0x7, bitHigh bit, rd.nibble]
  | .bistInd bit erd => [0x7, 0xD, erd.low, 0x0, 0x6, 0x7, bitHigh bit, 0x0]
  | .bistAbs8 bit aa => [0x7, 0xF] ++ nibbles8 aa ++ [0x6, 0x7, bitHigh bit, 0x0]
  | .bra (.d8 disp) => [0x4, 0x0] ++ nibbles8 disp
  | .bra (.d16 disp) => [0x5, 0x8, 0x0, 0x0] ++ nibbles16 disp
  | .brn (.d8 disp) => [0x4, 0x1] ++ nibbles8 disp
  | .brn (.d16 disp) => [0x5, 0x8, 0x1, 0x0] ++ nibbles16 disp
  | .bhi (.d8 disp) => [0x4, 0x2] ++ nibbles8 disp
  | .bhi (.d16 disp) => [0x5, 0x8, 0x2, 0x0] ++ nibbles16 disp
  | .bls (.d8 disp) => [0x4, 0x3] ++ nibbles8 disp
  | .bls (.d16 disp) => [0x5, 0x8, 0x3, 0x0] ++ nibbles16 disp
  | .bcc (.d8 disp) => [0x4, 0x4] ++ nibbles8 disp
  | .bcc (.d16 disp) => [0x5, 0x8, 0x4, 0x0] ++ nibbles16 disp
  | .bcs (.d8 disp) => [0x4, 0x5] ++ nibbles8 disp
  | .bcs (.d16 disp) => [0x5, 0x8, 0x5, 0x0] ++ nibbles16 disp
  | .bne (.d8 disp) => [0x4, 0x6] ++ nibbles8 disp
  | .bne (.d16 disp) => [0x5, 0x8, 0x6, 0x0] ++ nibbles16 disp
  | .beq (.d8 disp) => [0x4, 0x7] ++ nibbles8 disp
  | .beq (.d16 disp) => [0x5, 0x8, 0x7, 0x0] ++ nibbles16 disp
  | .bvc (.d8 disp) => [0x4, 0x8] ++ nibbles8 disp
  | .bvc (.d16 disp) => [0x5, 0x8, 0x8, 0x0] ++ nibbles16 disp
  | .bvs (.d8 disp) => [0x4, 0x9] ++ nibbles8 disp
  | .bvs (.d16 disp) => [0x5, 0x8, 0x9, 0x0] ++ nibbles16 disp
  | .bpl (.d8 disp) => [0x4, 0xA] ++ nibbles8 disp
  | .bpl (.d16 disp) => [0x5, 0x8, 0xA, 0x0] ++ nibbles16 disp
  | .bmi (.d8 disp) => [0x4, 0xB] ++ nibbles8 disp
  | .bmi (.d16 disp) => [0x5, 0x8, 0xB, 0x0] ++ nibbles16 disp
  | .bge (.d8 disp) => [0x4, 0xC] ++ nibbles8 disp
  | .bge (.d16 disp) => [0x5, 0x8, 0xC, 0x0] ++ nibbles16 disp
  | .blt (.d8 disp) => [0x4, 0xD] ++ nibbles8 disp
  | .blt (.d16 disp) => [0x5, 0x8, 0xD, 0x0] ++ nibbles16 disp
  | .bgt (.d8 disp) => [0x4, 0xE] ++ nibbles8 disp
  | .bgt (.d16 disp) => [0x5, 0x8, 0xE, 0x0] ++ nibbles16 disp
  | .ble (.d8 disp) => [0x4, 0xF] ++ nibbles8 disp
  | .ble (.d16 disp) => [0x5, 0x8, 0xF, 0x0] ++ nibbles16 disp
  | .jmpInd ern => [0x5, 0x9, ern.low, 0x0]
  | .jmpAbs24 aa => [0x5, 0xA] ++ nibbles24 aa
  | .jmpMemInd aa => [0x5, 0xB] ++ nibbles8 aa
  | .bsr8 disp => [0x5, 0x5] ++ nibbles8 disp
  | .bsr16 disp => [0x5, 0xC, 0x0, 0x0] ++ nibbles16 disp
  | .jsrInd ern => [0x5, 0xD, ern.low, 0x0]
  | .jsrAbs24 aa => [0x5, 0xE] ++ nibbles24 aa
  | .jsrMemInd aa => [0x5, 0xF] ++ nibbles8 aa
  | .rts => [0x5, 0x4, 0x7, 0x0]
  | .trapa vec => [0x5, 0x7, BitVec.ofNat 4 vec.toNat, 0x0]
  | .rte => [0x5, 0x6, 0x7, 0x0]
  | .sleep => [0x0, 0x1, 0x8, 0x0]
  | .ldcImm imm => [0x0, 0x7] ++ nibbles8 imm
  | .ldcReg rs => [0x0, 0x3, 0x0, rs.nibble]
  | .ldcInd ers => [0x0, 0x1, 0x4, 0x0, 0x6, 0x9, ers.low, 0x0]
  | .ldcDisp16 disp ers => [0x0, 0x1, 0x4, 0x0, 0x6, 0xF, ers.low, 0x0] ++ nibbles16 disp
  | .ldcDisp24 disp ers => [0x0, 0x1, 0x4, 0x0, 0x7, 0x8, ers.low, 0x0, 0x6, 0xB, 0x2, 0x0, 0x0, 0x0] ++ nibbles24 disp
  | .ldcPostInc ers => [0x0, 0x1, 0x4, 0x0, 0x6, 0xD, ers.low, 0x0]
  | .ldcAbs16 aa => [0x0, 0x1, 0x4, 0x0, 0x6, 0xB, 0x0, 0x0] ++ nibbles16 aa
  | .ldcAbs24 aa => [0x0, 0x1, 0x4, 0x0, 0x6, 0xB, 0x2, 0x0, 0x0, 0x0] ++ nibbles24 aa
  | .stcReg rd => [0x0, 0x2, 0x0, rd.nibble]
  | .stcInd erd => [0x0, 0x1, 0x4, 0x0, 0x6, 0x9, erd.high, 0x0]
  | .stcDisp16 disp erd => [0x0, 0x1, 0x4, 0x0, 0x6, 0xF, erd.high, 0x0] ++ nibbles16 disp
  | .stcDisp24 disp erd => [0x0, 0x1, 0x4, 0x0, 0x7, 0x8, erd.low, 0x0, 0x6, 0xB, 0xA, 0x0, 0x0, 0x0] ++ nibbles24 disp
  | .stcPreDec erd => [0x0, 0x1, 0x4, 0x0, 0x6, 0xD, erd.high, 0x0]
  | .stcAbs16 aa => [0x0, 0x1, 0x4, 0x0, 0x6, 0xB, 0x8, 0x0] ++ nibbles16 aa
  | .stcAbs24 aa => [0x0, 0x1, 0x4, 0x0, 0x6, 0xB, 0xA, 0x0, 0x0, 0x0] ++ nibbles24 aa
  | .andc imm => [0x0, 0x6] ++ nibbles8 imm
  | .orc imm => [0x0, 0x4] ++ nibbles8 imm
  | .xorc imm => [0x0, 0x5] ++ nibbles8 imm
  | .nop => [0x0, 0x0, 0x0, 0x0]
  | .eepmovB => [0x7, 0xB, 0x5, 0xC, 0x5, 0x9, 0x8, 0xF]
  | .eepmovW => [0x7, 0xB, 0xD, 0x4, 0x5, 0x9, 0x8, 0xF]

/-! ### Bytes -/

/-- The nibbles of a run of bytes: "the first byte (lowest address) holds the most significant 8 bits" (R111). -/
def nibblesOfBytes : List Byte → List Nibble
  | [] => []
  | b :: bs => nibbles8 b ++ nibblesOfBytes bs

/-- The bytes a run of nibbles makes up, two by two. -/
def bytesOfNibbles : List Nibble → List Byte
  | a :: b :: rest => byteOf a b :: bytesOfNibbles rest
  | _ => []

/-- The bytes of an instruction, in the order of their addresses. -/
def encode (i : Instr) : List Byte := bytesOfNibbles (encodeNibbles i)

/-- The length of an instruction in bytes: "2 bytes (one word) or a multiple of 2 bytes" (R111). -/
def Instr.length (i : Instr) : Nat := (encode i).length

/-- The instruction at the head of a run of bytes, with the bytes after it. -/
def decode (bytes : List Byte) : DecodeResult (Instr × List Byte) :=
  match decodeNibbles (nibblesOfBytes bytes) with
  | .ok i => .ok (i, bytes.drop i.length)
  | .error e => .error e

/-! ### The host's numbering of a table row's bits -/

/-- The longest instruction has ten bytes (R111). -/
def maxLength : Nat := 10

/-- The `k` bytes of a number, most significant first. -/
def bytesOfNat : Nat → Nat → List Byte
  | 0, _ => []
  | k + 1, w => BitVec.ofNat 8 (w / 256 ^ k) :: bytesOfNat k w

/-- `w` of `nbits` bits as one number, most significant bit first: the numbering of the table's "match", "mask",
"fixed" and "fields", in which the first word holds the most significant bits. -/
def bytesFirstWordHigh (nbits w : Nat) : List Byte :=
  bytesOfNat (nbits / 8) w ++ List.replicate (maxLength - nbits / 8) 0#8

/-- The words of `w`, least significant first: `k` words. -/
def wordsLowFirst : Nat → Nat → List Byte
  | 0, _ => []
  | k + 1, w => bytesOfNat 2 (w % 65536) ++ wordsLowFirst k (w / 65536)

/-- `w` with the first word in its lowest 16 bits and each later word above it. -/
def bytesFirstWordLow (nbits w : Nat) : List Byte :=
  wordsLowFirst (nbits / 16) w ++ List.replicate (maxLength - nbits / 8) 0#8

/-- Whether a run of bytes begins with an instruction of exactly `nbits` bits. -/
def fillsRow (nbits : Nat) (bytes : List Byte) : Bool :=
  match decode bytes with
  | .ok (i, _) => i.length * 8 == nbits
  | .error _ => false

/-- The bytes of a table row's instruction, zeros after them. The table's own numbering is tried first; where it
gives no instruction of the row's length, the numbering with the first word lowest is. Log 7. -/
def tableBytes (nbits w : Nat) : List Byte :=
  if fillsRow nbits (bytesFirstWordHigh nbits w) then bytesFirstWordHigh nbits w
  else if fillsRow nbits (bytesFirstWordLow nbits w) then bytesFirstWordLow nbits w
  else bytesFirstWordHigh nbits w

/-- The instruction the decoder reads from a row of opcode_table.json with these bits. -/
def decodeTableWord (nbits w : Nat) : Option Instr :=
  match decode (tableBytes nbits w) with
  | .ok (i, _) => some i
  | .error _ => none

end Sys2Proof
end

