-- ==== Sys2Proof/Machine/State.lean ====
section
/-! DEFINITION. Everything the spec says the machine remembers (10_state.md, 20_memory.md, 60_exceptions.md), as plain
data, the reasons it can stop, and the state after reset (R60). -/

namespace Sys2Proof.Machine

/-- Why the machine stops with a fault. Safe: hardware goes on in a way no rule states, so no run is invented. -/
inductive Fault where
  /-- An access in mode 7 outside on-chip ROM, on-chip RAM and the internal I/O registers, or in modes 5 and 6 to "the
  ROM-sized hole above a smaller product's ROM": nothing exists there (R93, 93 U6). Raised by fetches, reads and writes.
  Safe. Log 15. -/
  | unmapped
  /-- An access to the reserved area of the H8/3020: "Do not access the reserved area." (R93, R447, 93 U6). Raised by
  fetches, reads and writes. Safe. Log 15. -/
  | reservedArea
  deriving DecidableEq, Repr

/-- Why the model gives no next state. Safe: hardware goes on in a way no rule states, so no run is invented. -/
inductive Refusal where
  /-- An instruction that has no meaning in this model. Raised by no arm of `exec`. Safe. -/
  | notModelled (mnemonic : String)
  /-- The bytes at the program counter are no row of the opcode table, or a fixed bit is wrong: "the model refuses"
  (R125, R126, 92 D1). Raised by the step. Safe. -/
  | undefinedInstruction
  /-- MOVFPE and MOVTPE: "Cannot be used in the H8/3022 Series." (R164, R165, 92 D2). Raised by their meanings. Safe. -/
  | cannotBeUsed
  /-- A post-increment load into, or a pre-decrement store of, a part of the address register: "the model refuses these
  forms" (R163, 92 D5). Raised by MOV, POP and PUSH. Safe. Log 12. -/
  | addressRegisterIsData
  /-- A store into the instruction being executed or the four bytes after it (R104, R445, 92 D11). Raised by every
  instruction that stores. Safe. Log 13. -/
  | storeIntoInstructionStream
  /-- An internal I/O register the spec does not describe and the platform does not supply: "the default refuses"
  (R92, R100, 92 D8). Raised by fetches, reads and writes. Safe. Log 17. -/
  | ioRegister
  deriving DecidableEq, Repr

/-- The processing states (R400). The exception-handling state is transient: an entry is one step (R386). Log 34. -/
inductive ProcessingState where
  | program | reset | sleep | softwareStandby | hardwareStandby
  deriving DecidableEq, Repr

/-- The levels of the interrupt pins (R383): true is high. -/
structure Pins where
  nmi : Bool
  irq0 : Bool
  irq1 : Bool
  irq4 : Bool
  irq5 : Bool
  deriving DecidableEq, Repr

/-- One call of the host callback of a platform device: "(address, size, read or write, value) -> value" (R7, R461). The
address is the one put to memory, the size is in bytes, the value is the one written, or the one a read was answered
with. -/
structure DeviceCall where
  address : Nat
  size : Nat
  write : Bool
  value : Word
  deriving DecidableEq, Repr

/-- All interrupt pins at rest. -/
def Pins.high : Pins := ⟨true, true, true, true, true⟩

/-- The 25 internal interrupt sources (R366, R378). PRESUMED by the spec's own account (93 G16), log 24. -/
inductive ModuleInterrupt where
  | wovi
  | imia0 | imib0 | ovi0
  | imia1 | imib1 | ovi1
  | imia2 | imib2 | ovi2
  | imia3 | imib3 | ovi3
  | imia4 | imib4 | ovi4
  | eri0 | rxi0 | txi0 | tei0
  | eri1 | rxi1 | txi1 | tei1
  | adi
  deriving DecidableEq, Repr

/-- Memory: the bytes that differ from what an unlisted address reads as, by rising address. -/
abbrev Memory := List Host.Cell

/-- The machine. -/
structure State where
  /-- ER0 to ER7 (R20). ER7 is the stack pointer (R24). -/
  er : Vector Long 8
  /-- The program counter (R26). -/
  pc : Addr
  /-- The condition code register: I UI H U N Z V C from bit 7 down (R30). -/
  ccr : Byte
  /-- On-chip ROM and RAM and external memory (R93, R94). -/
  mem : Memory
  /-- The MCU operating mode, a constant of a run (R7, R436). -/
  mcuMode : McuMode
  /-- The chip, a constant of a run (R7). -/
  product : Product
  /-- The parameters EXT_MEM and IO_DEVICE, constants of a run (R7, R97, R100). -/
  platform : List PlatformRegion
  /-- The layout of IPRB, a parameter and a constant of a run (R52). -/
  iprbLayout : IprbLayout
  /-- Host input: what the platform's devices answer to the reads to come, in their order (R461). Log 17. -/
  deviceAnswers : List Word
  /-- The calls made to the platform's devices, the latest first (R461). Log 17. -/
  deviceCalls : List DeviceCall
  /-- SYSCR (R43). -/
  syscr : Byte
  /-- ISCR (R53). -/
  iscr : Byte
  /-- IER (R54). -/
  ier : Byte
  /-- ISR (R55). -/
  isr : Byte
  /-- Which flags of ISR software has read as 1 since they were set (R55). Log 23. -/
  isrRead : Byte
  /-- IPRA (R51). -/
  ipra : Byte
  /-- IPRB (R52). -/
  iprb : Byte
  /-- The processing state (R59, R400). -/
  pstate : ProcessingState
  /-- The one-instruction interrupt hold-off (R59, R381). -/
  irqInhibit : Bool
  /-- The RES pin is low (R370). -/
  resLow : Bool
  /-- Host input: RES goes low during the next instruction or interrupt entry, when that has made this many writes: "An
  instruction in progress when RES falls is abandoned" (R406). Log 38. -/
  resDuring : Option Nat
  /-- The STBY pin is low (R405). -/
  stbyLow : Bool
  /-- The interrupt pins (R383). -/
  pins : Pins
  /-- The interrupt pins as last sampled (R383). Log 22. -/
  pinsSeen : Pins
  /-- "An NMI edge sets an internal request" (R383). -/
  nmiRequest : Bool
  /-- The requests of the on-chip supporting modules (R378). Log 25. -/
  moduleRequests : List ModuleInterrupt
  /-- Host input: an NMI arrives while the byte after this many bytes of a block transfer is moved (R352). Log 28. -/
  nmiDuringTransfer : Option Nat
  /-- The model's own: how many free values have been drawn (93_implementation_defined.md). Log 18. -/
  draws : Nat
  deriving DecidableEq, Repr

/-- The machine after reset exception handling (R60, R430), with nothing placed in memory: the reset vector then reads
H'00000000, so the program counter is H'000000. General registers and CCR bits other than I: log 1. Memory: log 2.
Mode, product, platform and the layout of IPRB: log 3. -/
def State.reset : State where
  er := Vector.replicate 8 0#32
  pc := 0#24
  ccr := 0x80#8
  mem := []
  mcuMode := .mode7
  product := .h83022
  platform := []
  iprbLayout := IprbLayout.usual
  deviceAnswers := []
  deviceCalls := []
  syscr := 0x0B#8
  iscr := 0#8
  ier := 0#8
  isr := 0#8
  isrRead := 0#8
  ipra := 0#8
  iprb := 0#8
  pstate := .program
  irqInhibit := true
  resLow := false
  resDuring := none
  stbyLow := false
  pins := Pins.high
  pinsSeen := Pins.high
  nmiRequest := false
  moduleRequests := []
  nmiDuringTransfer := none
  draws := 0

end Sys2Proof.Machine
end

