-- ==== Sys2Proof/Machine/Memory.lean ====
section
/-! DEFINITION. The address map (R92 to R94), the cells behind it, and byte, word and longword accesses (R74 to R78). -/

namespace Sys2Proof.Machine

/-! ### Cells -/

/-- What an address that memory does not list reads as. DESIGN CHOICE, log 2. -/
def Memory.unlisted : Byte := 0#8

/-- The canonical form: addresses strictly rising from `lo` on, and no byte equal to the unlisted one. -/
def Memory.wfFrom : Nat → Memory → Bool
  | _, [] => true
  | lo, (k, v) :: rest => decide (lo ≤ k) && (v != Memory.unlisted) && Memory.wfFrom (k + 1) rest

/-- Memory is in its canonical form. -/
def Memory.wf (m : Memory) : Bool := Memory.wfFrom 0 m

/-- The byte at a cell. -/
def Memory.read : Memory → Nat → Byte
  | [], _ => Memory.unlisted
  | (k, v) :: rest, a => if k = a then v else Memory.read rest a

/-- A cell in front of later cells, left out if it holds the unlisted byte. -/
def Memory.cons (a : Nat) (v : Byte) (rest : Memory) : Memory :=
  if v = Memory.unlisted then rest else (a, v) :: rest

/-- Writes a cell, keeping the canonical form. -/
def Memory.write : Memory → Nat → Byte → Memory
  | [], a, v => Memory.cons a v []
  | (k, w) :: rest, a, v =>
    if k < a then (k, w) :: Memory.write rest a v
    else if k = a then Memory.cons a v rest
    else Memory.cons a v ((k, w) :: rest)

/-- Of the `n` cells from `a` on, those that `which` picks take the bytes that `new` gives them. -/
def Memory.scramble (which : Nat → Bool) (new : Nat → Byte) : Nat → Nat → Memory → Memory
  | 0, _, m => m
  | n + 1, a, m => Memory.scramble which new n (a + 1) (if which a then m.write a (new a) else m)

/-! ### The map -/

/-- Why an access or an instruction is not carried to its end: a fault, a refusal, or RES going low during it, with the
state it had reached (R406). -/
inductive Stop where
  | fault (f : Fault)
  | refusal (r : Refusal)
  | abandoned (s : State)
  deriving DecidableEq, Repr

/-- A value, or a stop. -/
abbrev Res := Except Stop

/-- The seven internal I/O registers the spec describes (R92). -/
inductive IoReg where
  | mdcr | syscr | iscr | ier | isr | ipra | iprb
  deriving DecidableEq, Repr

/-- The register at the lower 16 bits of an address (R42, R43, R50). -/
def IoReg.ofLow (low : Nat) : Option IoReg :=
  match low with
  | 0xFFF1 => some .mdcr
  | 0xFFF2 => some .syscr
  | 0xFFF4 => some .iscr
  | 0xFFF5 => some .ier
  | 0xFFF6 => some .isr
  | 0xFFF8 => some .ipra
  | 0xFFF9 => some .iprb
  | _ => none

/-- What an address selects. -/
inductive Place where
  /-- A cell that reads and writes. -/
  | ram (key : Nat)
  /-- A cell that ignores writes: on-chip ROM (93 U7, log 14) or read-only memory of the platform. -/
  | rom (key : Nat)
  /-- A register of the platform that takes writes and reads as H'FF (R100). -/
  | writeOnly (key : Nat)
  /-- On-chip RAM disabled in mode 7: reads H'FF, ignores writes (R94). -/
  | disabledRam
  /-- A device of the platform (R97, R100). -/
  | device (wide : Bool)
  /-- An internal I/O register. -/
  | reg (r : IoReg)
  /-- Nothing the spec describes. -/
  | stop (why : Stop)
  deriving DecidableEq, Repr

/-- Whether a place answers by a host callback, so that two reads of it may differ. -/
def Place.isDevice : Place → Bool
  | .device _ => true
  | .ram _ | .rom _ | .writeOnly _ | .disabledRam | .reg _ | .stop _ => false

/-- The mode's number, the binary value of MD2 to MD0 (R42). -/
def McuMode.number : McuMode → Nat
  | .mode1 => 1
  | .mode3 => 3
  | .mode5 => 5
  | .mode6 => 6
  | .mode7 => 7

/-- The modes with 20-bit addressing: "1-Mbyte modes (modes 1, 5, and 7)" (R72). -/
def McuMode.oneMbyte : McuMode → Bool
  | .mode1 | .mode5 | .mode7 => true
  | .mode3 | .mode6 => false

/-- The modes with on-chip ROM: "modes 5, 6, 7 only" (R93). -/
def McuMode.hasRom : McuMode → Bool
  | .mode5 | .mode6 | .mode7 => true
  | .mode1 | .mode3 => false

/-- The size of on-chip ROM (R93). -/
def Product.romSize : Product → Nat
  | .h83022 | .h83022Fztat => 0x40000
  | .h83021 => 0x30000
  | .h83020 => 0x20000

/-- The end of the largest on-chip ROM of the series (R93): a smaller product has a hole up to it (93 U6). -/
def romSpace : Nat := 0x40000

/-- The lower 16 bits of the first address of on-chip RAM (R93). -/
def Product.ramStart : Product → Nat
  | .h83022 | .h83022Fztat | .h83021 => 0xDF10
  | .h83020 => 0xEF10

/-- `phys(a)`: the address that selects a byte (R72). -/
def phys (m : McuMode) (a : Addr) : Nat :=
  if McuMode.oneMbyte m then a.toNat % 0x100000 else a.toNat

/-- The last 64 kbytes of the address space of a mode, which hold RAM and the internal I/O registers (R92, R93). -/
def topBase (m : McuMode) : Nat :=
  if McuMode.oneMbyte m then 0x0F0000 else 0xFF0000

/-- SYSCR bit 0, RAME (R49). -/
def State.ramEnabled (s : State) : Bool := s.syscr.getLsbD 0

/-- The region of the platform at an address. -/
def State.platformRegion (s : State) (p : Nat) : Option PlatformRegion :=
  s.platform.find? fun r => decide (r.base ≤ p) && decide (p < r.base + r.size)

/-- What the platform puts at an address (R97, R100). -/
def State.platformKind (s : State) (p : Nat) : Option PlatformKind := (s.platformRegion p).map (·.kind)

/-- External address space: "The default for proofs is RAM over the whole external space" (92 D6). The external bus is "8
bits, with 8-bit access to all areas" (R98), so a device there is called byte by byte. -/
def State.externalPlace (s : State) (p key : Nat) : Place :=
  match s.platformKind p with
  | none | some .ram => .ram key
  | some .rom => .rom key
  | some .writeOnly => .writeOnly key
  | some (.device _) => .device false

/-- The window of internal I/O registers (R92); an undescribed one is the platform's, and by default refused (92 D8). -/
def State.internalPlace (s : State) (p low : Nat) : Place :=
  match IoReg.ofLow low with
  | some r => .reg r
  | none =>
    match s.platformKind p with
    | none => .stop (.refusal .ioRegister)
    | some .ram => .ram p
    | some .rom => .rom p
    | some .writeOnly => .writeOnly p
    | some (.device wide) => .device wide

/-- How many addresses of the window of internal I/O registers (R92) may hold a register of the platform: none where the
platform is empty. -/
def State.ioWindow (s : State) : Nat :=
  match s.platform with
  | [] => 0
  | _ :: _ => 0xE4

/-- The cell at `p` is a module register that the platform supplies: an internal I/O register, none of the seven, and no
device (R92, R100). Those of I/O ports count if `ports` says so. Log 17. -/
def State.moduleCell (s : State) (ports : Bool) (p : Nat) : Bool :=
  let low := p - topBase s.mcuMode
  decide (topBase s.mcuMode + 0xFF1C ≤ p) && decide (low < 0x10000) && (IoReg.ofLow low).isNone &&
    (s.platformRegion p).any fun r => r.kind.isCell && (ports || !r.ioPort)

/-- External bytes behind a disabled on-chip RAM are cells of their own (R94). Log 16. -/
def behindRam : Nat := 0x1000000

/-- The address map (R93, R94, 93 U6). Log 15, log 16. -/
def State.locate (s : State) (a : Addr) : Place :=
  let p := phys s.mcuMode a
  let top := topBase s.mcuMode
  if McuMode.hasRom s.mcuMode && decide (p < Product.romSize s.product) then .rom p
  else if McuMode.hasRom s.mcuMode && decide (p < romSpace) then .stop (.fault .unmapped)
  else if top + 0xFF1C ≤ p then s.internalPlace p (p - top)
  else if top + Product.ramStart s.product ≤ p ∧ p < top + 0xFF10 then
    if s.ramEnabled then .ram p
    else if s.mcuMode = .mode7 then .disabledRam
    else s.externalPlace p (p + behindRam)
  else if s.product = .h83020 ∧ top + 0xDF10 ≤ p ∧ p < top + 0xEF10 then .stop (.fault .reservedArea)
  else if s.mcuMode = .mode7 then .stop (.fault .unmapped)
  else s.externalPlace p p

/-! ### Internal I/O registers -/

/-- What a register reads as (R42, R43, R50). -/
def State.readReg (s : State) : IoReg → Byte
  | .mdcr => 0xC0#8 ||| BitVec.ofNat 8 (McuMode.number s.mcuMode)
  | .syscr => s.syscr
  | .iscr => s.iscr
  | .ier => s.ier
  | .isr => s.isr
  | .ipra => s.ipra
  | .iprb => s.iprb

/-- The ISR flags that a write of `v` leaves set: a 0 clears a flag that has been read as 1; "A write of 1 to a flag
leaves it as it was" (R55). Log 23. -/
def clearedIsr (isr isrRead v : Byte) : Byte := isr &&& (v ||| ~~~isrRead)

/-- A write to a register. MDCR is read-only (R42); SYSCR bit 1 "cannot be modified and is always read as 1" (R48);
ISR: R55. Other reserved bits are stored as written, log 29. -/
def State.writeReg (s : State) (r : IoReg) (v : Byte) : State :=
  match r with
  | .mdcr => s
  | .syscr => { s with syscr := v ||| 0x02#8 }
  | .iscr => { s with iscr := v }
  | .ier => { s with ier := v }
  | .isr => { s with isr := clearedIsr s.isr s.isrRead v, isrRead := s.isrRead &&& v }
  | .ipra => { s with ipra := v }
  | .iprb => { s with iprb := v }

/-! ### Accesses -/

/-- Bit 0 of a word or longword address "is regarded as 0" (R76). -/
def evenAddr (a : Addr) : Addr := a &&& 0xFFFFFE#24

/-- What a device answers to a read now: what the host has supplied, else any value (R461). Log 17. -/
def State.deviceAnswer (s : State) : Word :=
  match s.deviceAnswers with
  | [] => (Config.freeValue s.draws).extractLsb' 0 16
  | v :: _ => v

/-- A read call of `size` bytes to a device: the answer is used up, or a free value is drawn (R461). -/
def State.callRead (s : State) (a : Addr) (size : Nat) (v : Word) : State :=
  { s with
    deviceAnswers := s.deviceAnswers.tail
    deviceCalls := ⟨phys s.mcuMode a, size, false, v⟩ :: s.deviceCalls
    draws := if s.deviceAnswers = [] then s.draws + 1 else s.draws }

/-- A write call of `size` bytes to a device (R461). -/
def State.callWrite (s : State) (a : Addr) (size : Nat) (v : Word) : State :=
  { s with deviceCalls := ⟨phys s.mcuMode a, size, true, v⟩ :: s.deviceCalls }

/-- The byte a read of an address gives now, without the side effects of the read. -/
def State.peekByte (s : State) (a : Addr) : Res Byte :=
  match s.locate a with
  | .ram k | .rom k => .ok (s.mem.read k)
  | .writeOnly _ | .disabledRam => .ok 0xFF#8
  | .device _ => .ok (s.deviceAnswer.extractLsb' 0 8)
  | .reg r => .ok (s.readReg r)
  | .stop why => .error why

/-- The side effect of reading a byte: reading ISR notes which flags were read as 1 (R55); a device is called (R100). -/
def State.noteRead (s : State) (a : Addr) : State :=
  match s.locate a with
  | .reg .isr => { s with isrRead := s.isrRead ||| s.isr }
  | .device _ => s.callRead a 1 ((s.deviceAnswer.extractLsb' 0 8).zeroExtend 16)
  | .reg .mdcr | .reg .syscr | .reg .iscr | .reg .ier | .reg .ipra | .reg .iprb => s
  | .ram _ | .rom _ | .writeOnly _ | .disabledRam | .stop _ => s

/-- `MemRead(a, 1)` (R75). -/
def State.readByte (s : State) (a : Addr) : Res (Byte × State) := do
  let v ← s.peekByte a
  return (v, s.noteRead a)

/-- Both bytes of the word at an even address belong to a device with a 16-bit bus: the access is one call (R98, R99). -/
def State.wideDevice (s : State) (a : Addr) : Bool :=
  decide (s.locate a = .device true) && decide (s.locate (a + 1) = .device true)

/-- On-chip ROM or RAM stands at an address, RAM also while it is disabled in mode 7, where writes are ignored (R93, R94):
"On-chip memory is accessed through a 16-bit data bus" (R98). -/
def State.onChip (s : State) (a : Addr) : Bool :=
  let p := phys s.mcuMode a
  let top := topBase s.mcuMode
  (McuMode.hasRom s.mcuMode && decide (p < Product.romSize s.product)) ||
    (decide (top + Product.ramStart s.product ≤ p) && decide (p < top + 0xFF10) &&
      (s.ramEnabled || decide (s.mcuMode = .mode7)))

/-- A word access at an even address is one bus cycle: "to on-chip memory or to a 16-bit-wide module register" (R99). -/
def State.singleCycle (s : State) (a : Addr) : Bool := s.wideDevice a || s.onChip a

/-- `MemRead(a, 2)` (R76): a word from a wide device, else the byte at the even address and the one after it (R99). -/
def State.readWord (s : State) (a : Addr) : Res (Word × State) :=
  if s.wideDevice (evenAddr a) then .ok (s.deviceAnswer, s.callRead (evenAddr a) 2 s.deviceAnswer)
  else do
    let (hi, s1) ← s.readByte (evenAddr a)
    let (lo, s2) ← s1.readByte (evenAddr a + 1)
    return (hi ++ lo, s2)

/-- `MemRead(a, 4)`: the word at the lower address first (R77, R99). -/
def State.readLong (s : State) (a : Addr) : Res (Long × State) := do
  let (hi, s1) ← s.readWord (evenAddr a)
  let (lo, s2) ← s1.readWord (evenAddr a + 2)
  return (hi ++ lo, s2)

/-- `MemWrite(a, 1, v)` (R75). -/
def State.writeByte (s : State) (a : Addr) (v : Byte) : Res State :=
  match s.locate a with
  | .ram k | .writeOnly k => .ok { s with mem := s.mem.write k v }
  | .rom _ | .disabledRam => .ok s
  | .device _ => .ok (s.callWrite a 1 (v.zeroExtend 16))
  | .reg r => .ok (s.writeReg r v)
  | .stop why => .error why

/-- Whether a store at `a` overlaps the `window` bytes from the executing instruction on (R104). Log 13. -/
def State.inStream (s : State) (window : Nat) (a : Addr) : Bool :=
  decide (phys s.mcuMode (a - evenAddr s.pc) < window)

/-- What comes before a write of an instruction to the `nb` bytes at `a`: RES may go low now, and the instruction is
abandoned with its earlier writes made (R406); a write inside the `window` bytes from the instruction on is refused
(R104, 92 D11). Log 13, log 38. -/
def State.admitStore (s : State) (window nb : Nat) (a : Addr) : Res State :=
  if s.resDuring = some 0 then .error (.abandoned s)
  else if (List.range nb).any fun j => s.inStream window (a + BitVec.ofNat 24 j) then
    .error (.refusal .storeIntoInstructionStream)
  else .ok { s with resDuring := s.resDuring.map fun k => k - 1 }

/-- A byte stored by an instruction. -/
def State.storeByte (s : State) (window : Nat) (a : Addr) (v : Byte) : Res State := do
  let s1 ← s.admitStore window 1 a
  s1.writeByte a v

/-- The write of a word at an even address in one bus cycle: a call of a wide device, or both bytes of on-chip memory
(R76, R99). -/
def State.writeWord (s : State) (a : Addr) (v : Word) : Res State :=
  if s.wideDevice a then .ok (s.callWrite a 2 v)
  else do
    let s1 ← s.writeByte a (v.extractLsb' 8 8)
    s1.writeByte (a + 1) (v.extractLsb' 0 8)

/-- `MemWrite(a, 2, v)` (R76): one bus cycle, which is made whole or not at all, or two, the upper byte to the even address
and then the lower byte to the one after it (R99). -/
def State.storeWord (s : State) (window : Nat) (a : Addr) (v : Word) : Res State :=
  if s.singleCycle (evenAddr a) then do
    let s1 ← s.admitStore window 2 (evenAddr a)
    s1.writeWord (evenAddr a) v
  else do
    let s1 ← s.storeByte window (evenAddr a) (v.extractLsb' 8 8)
    s1.storeByte window (evenAddr a + 1) (v.extractLsb' 0 8)

/-- `MemWrite(a, 4, v)`, upper word first (R77, R99). -/
def State.storeLong (s : State) (window : Nat) (a : Addr) (v : Long) : Res State := do
  let s1 ← s.storeWord window (evenAddr a) (v.extractLsb' 16 16)
  s1.storeWord window (evenAddr a + 2) (v.extractLsb' 0 16)

end Sys2Proof.Machine
end

