-- ==== Sys2Proof/Machine/Flags.lean ====
section
/-! DEFINITION. The bits of CCR (R30 to R38) and the flag formulas of every family (R150, R180, R230, R250). The
formulas are general knowledge by the spec's own account (93 G2). PRESUMED, log 6. -/

namespace Sys2Proof.Machine

/-- The bits of CCR (R30). -/
inductive Flag where
  | I | UI | H | U | N | Z | V | C
  deriving DecidableEq, Repr

/-- The place of a bit in CCR (R30). -/
def Flag.index : Flag → Nat
  | .I => 7
  | .UI => 6
  | .H => 5
  | .U => 4
  | .N => 3
  | .Z => 2
  | .V => 1
  | .C => 0

/-- A bit of CCR. -/
def getFlag (ccr : Byte) (f : Flag) : Bool := ccr.getLsbD f.index

/-- CCR with one bit set or cleared. -/
def setFlag (ccr : Byte) (f : Flag) (b : Bool) : Byte :=
  if b then ccr ||| (1#8 <<< f.index) else ccr &&& ~~~(1#8 <<< f.index)

/-- A bit as a number. -/
def carryIn (b : Bool) : Nat := if b then 1 else 0

/-! ### N and Z (R35, R36) -/

/-- N and Z of a result: "N indicates the most significant bit", "Z is set to 1 to indicate zero data" (R35, R36). -/
def flagsNZ {n : Nat} (r : BitVec n) (ccr : Byte) : Byte :=
  setFlag (setFlag ccr .N r.msb) .Z (r == 0)

/-- N and Z of a result, V cleared: MOV (R150), AND, OR, XOR, NOT (R230), EXTS, EXTU (R202, R203). -/
def flagsNZ0 {n : Nat} (r : BitVec n) (ccr : Byte) : Byte :=
  setFlag (flagsNZ r ccr) .V false

/-- N, Z, V as given and C: shifts and rotates (R250). -/
def flagsShift {n : Nat} (r : BitVec n) (v c : Bool) (ccr : Byte) : Byte :=
  setFlag (setFlag (flagsNZ r ccr) .V v) .C c

/-! ### Addition and subtraction (R180) -/

/-- `(D + S + cin) mod 2^n`. -/
def sum {n : Nat} (d s : BitVec n) (cin : Bool) : BitVec n := d + s + BitVec.ofNat n (carryIn cin)

/-- `(D - S - cin) mod 2^n`. -/
def difference {n : Nat} (d s : BitVec n) (cin : Bool) : BitVec n := d - s - BitVec.ofNat n (carryIn cin)

/-- The operand below the half-carry position: `D & m` with `m = 2^(n-4) - 1`. -/
def lowPart {n : Nat} (d : BitVec n) : Nat := d.toNat % 2 ^ (n - 4)

/-- H, N, Z, V, C of an addition. -/
def flagsAdd {n : Nat} (d s : BitVec n) (cin : Bool) (ccr : Byte) : Byte :=
  let r := sum d s cin
  let h := decide (2 ^ (n - 4) - 1 < lowPart d + lowPart s + carryIn cin)
  let v := (d.msb == s.msb) && (r.msb != d.msb)
  let c := decide (2 ^ n ≤ d.toNat + s.toNat + carryIn cin)
  setFlag (setFlag (setFlag (flagsNZ r ccr) .H h) .V v) .C c

/-- H, N, Z, V, C of a subtraction. -/
def flagsSub {n : Nat} (d s : BitVec n) (cin : Bool) (ccr : Byte) : Byte :=
  let r := difference d s cin
  let h := decide (lowPart d < lowPart s + carryIn cin)
  let v := (d.msb != s.msb) && (r.msb != d.msb)
  let c := decide (d.toNat < s.toNat + carryIn cin)
  setFlag (setFlag (setFlag (flagsNZ r ccr) .H h) .V v) .C c

/-- The sticky Z of ADDX and SUBX: "a nonzero result clears Z, a zero result leaves Z as it was" (R186). -/
def stickyZ {n : Nat} (r : BitVec n) (old new : Byte) : Byte :=
  setFlag new .Z (getFlag old .Z && (r == 0))

/-- INC: N, Z and V, C and H unchanged; V is the signed overflow of `D + k` (R188). -/
def flagsInc {n : Nat} (d : BitVec n) (k : Nat) (ccr : Byte) : Byte :=
  setFlag (flagsNZ (d + BitVec.ofNat n k) ccr) .V (decide (2 ^ (n - 1) - 1 < d.toInt + k))

/-- DEC: N, Z and V, C and H unchanged; V is the signed overflow of `D - k` (R189). -/
def flagsDec {n : Nat} (d : BitVec n) (k : Nat) (ccr : Byte) : Byte :=
  setFlag (flagsNZ (d - BitVec.ofNat n k) ccr) .V (decide (d.toInt - k < -2 ^ (n - 1)))

/-! ### What an ALU operation makes of the destination operand and CCR -/

/-- A result and the CCR after. -/
abbrev Alu (n : Nat) := BitVec n × Byte

/-- ADD (R181). -/
def aluAdd {n : Nat} (s d : BitVec n) (ccr : Byte) : Alu n := (sum d s false, flagsAdd d s false ccr)

/-- SUB and CMP (R182, R183). -/
def aluSub {n : Nat} (s d : BitVec n) (ccr : Byte) : Alu n := (difference d s false, flagsSub d s false ccr)

/-- ADDX: the old C enters, Z is sticky (R186). -/
def aluAddx {n : Nat} (s d : BitVec n) (ccr : Byte) : Alu n :=
  let r := sum d s (getFlag ccr .C)
  (r, stickyZ r ccr (flagsAdd d s (getFlag ccr .C) ccr))

/-- SUBX: the old C enters, Z is sticky (R187). -/
def aluSubx {n : Nat} (s d : BitVec n) (ccr : Byte) : Alu n :=
  let r := difference d s (getFlag ccr .C)
  (r, stickyZ r ccr (flagsSub d s (getFlag ccr .C) ccr))

/-- NEG: a subtraction from 0 (R184). -/
def aluNeg {n : Nat} (d : BitVec n) (ccr : Byte) : Alu n := (difference 0 d false, flagsSub 0 d false ccr)

/-- INC by `k` (R188). -/
def aluInc {n : Nat} (k : Nat) (d : BitVec n) (ccr : Byte) : Alu n := (d + BitVec.ofNat n k, flagsInc d k ccr)

/-- DEC by `k` (R189). -/
def aluDec {n : Nat} (k : Nat) (d : BitVec n) (ccr : Byte) : Alu n := (d - BitVec.ofNat n k, flagsDec d k ccr)

/-- MOV (R150). -/
def aluMov {n : Nat} (s : BitVec n) (_ : BitVec n) (ccr : Byte) : Alu n := (s, flagsNZ0 s ccr)

/-- AND (R231). -/
def aluAnd {n : Nat} (s d : BitVec n) (ccr : Byte) : Alu n := (d &&& s, flagsNZ0 (d &&& s) ccr)

/-- OR (R232). -/
def aluOr {n : Nat} (s d : BitVec n) (ccr : Byte) : Alu n := (d ||| s, flagsNZ0 (d ||| s) ccr)

/-- XOR (R233). -/
def aluXor {n : Nat} (s d : BitVec n) (ccr : Byte) : Alu n := (d ^^^ s, flagsNZ0 (d ^^^ s) ccr)

/-- NOT (R234). -/
def aluNot {n : Nat} (d : BitVec n) (ccr : Byte) : Alu n := (~~~d, flagsNZ0 (~~~d) ccr)

/-! ### Shifts and rotates by one bit (R250 to R258) -/

/-- A bit in place `i`. -/
def bitAt (n i : Nat) (b : Bool) : BitVec n := BitVec.ofNat n (carryIn b) <<< i

/-- SHAL: V is set when the sign changes (R251). -/
def aluShal {n : Nat} (d : BitVec n) (ccr : Byte) : Alu n :=
  let r := d <<< 1
  (r, flagsShift r (r.msb != d.msb) d.msb ccr)

/-- SHAR: the sign bit is kept (R252). -/
def aluShar {n : Nat} (d : BitVec n) (ccr : Byte) : Alu n :=
  let r := (d >>> 1) ||| bitAt n (n - 1) d.msb
  (r, flagsShift r false (d.getLsbD 0) ccr)

/-- SHLL (R253). -/
def aluShll {n : Nat} (d : BitVec n) (ccr : Byte) : Alu n :=
  let r := d <<< 1
  (r, flagsShift r false d.msb ccr)

/-- SHLR (R254). -/
def aluShlr {n : Nat} (d : BitVec n) (ccr : Byte) : Alu n :=
  let r := d >>> 1
  (r, flagsShift r false (d.getLsbD 0) ccr)

/-- ROTL (R255). -/
def aluRotl {n : Nat} (d : BitVec n) (ccr : Byte) : Alu n :=
  let r := (d <<< 1) ||| bitAt n 0 d.msb
  (r, flagsShift r false d.msb ccr)

/-- ROTR (R256). -/
def aluRotr {n : Nat} (d : BitVec n) (ccr : Byte) : Alu n :=
  let r := (d >>> 1) ||| bitAt n (n - 1) (d.getLsbD 0)
  (r, flagsShift r false (d.getLsbD 0) ccr)

/-- ROTXL: the old C enters bit 0 (R257). -/
def aluRotxl {n : Nat} (d : BitVec n) (ccr : Byte) : Alu n :=
  let r := (d <<< 1) ||| bitAt n 0 (getFlag ccr .C)
  (r, flagsShift r false d.msb ccr)

/-- ROTXR: the old C enters the top bit (R258). -/
def aluRotxr {n : Nat} (d : BitVec n) (ccr : Byte) : Alu n :=
  let r := (d >>> 1) ||| bitAt n (n - 1) (getFlag ccr .C)
  (r, flagsShift r false (d.getLsbD 0) ccr)

/-! ### Multiplication, extension (R192 to R195, R202, R203) -/

/-- EXTS.W: "extending the sign bit" of the lower byte (R202). -/
def aluExtsW (d : Word) (ccr : Byte) : Alu 16 :=
  let r := (d.extractLsb' 0 8).signExtend 16
  (r, flagsNZ0 r ccr)

/-- EXTS.L: "extending the sign bit" of the lower word (R202). -/
def aluExtsL (d : Long) (ccr : Byte) : Alu 32 :=
  let r := (d.extractLsb' 0 16).signExtend 32
  (r, flagsNZ0 r ccr)

/-- EXTU.W: "padding with zeros"; N is cleared (R203). -/
def aluExtuW (d : Word) (ccr : Byte) : Alu 16 :=
  let r := (d.extractLsb' 0 8).zeroExtend 16
  (r, setFlag (flagsNZ0 r ccr) .N false)

/-- EXTU.L: "padding with zeros"; N is cleared (R203). -/
def aluExtuL (d : Long) (ccr : Byte) : Alu 32 :=
  let r := (d.extractLsb' 0 16).zeroExtend 32
  (r, setFlag (flagsNZ0 r ccr) .N false)

/-- MULXU.B: no flag changes (R192). -/
def aluMulxuB (s : Byte) (d : Word) (ccr : Byte) : Alu 16 :=
  ((d.extractLsb' 0 8).zeroExtend 16 * s.zeroExtend 16, ccr)

/-- MULXU.W: no flag changes (R193). -/
def aluMulxuW (s : Word) (d : Long) (ccr : Byte) : Alu 32 :=
  ((d.extractLsb' 0 16).zeroExtend 32 * s.zeroExtend 32, ccr)

/-- MULXS.B: N and Z of the product (R194). -/
def aluMulxsB (s : Byte) (d : Word) (ccr : Byte) : Alu 16 :=
  let r := (d.extractLsb' 0 8).signExtend 16 * s.signExtend 16
  (r, flagsNZ r ccr)

/-- MULXS.W: N and Z of the product (R195). -/
def aluMulxsW (s : Word) (d : Long) (ccr : Byte) : Alu 32 :=
  let r := (d.extractLsb' 0 16).signExtend 32 * s.signExtend 32
  (r, flagsNZ r ccr)

/-! ### Division (R198 to R201, R204) -/

/-- The whole destination of a division without a quotient that fits: `UNSPEC(16)`, `UNSPEC(32)` (93 U3). Log 19. -/
def freeWord (free : Long) : Word := free.extractLsb' 0 16

/-- DIVXU.B: remainder in the upper byte, quotient in the lower; N and Z describe the divisor (R198). -/
def aluDivxuB (free : Long) (y : Byte) (x : Word) (ccr : Byte) : Alu 16 :=
  let r :=
    if y.toNat ≠ 0 ∧ x.toNat / y.toNat < 256 then
      BitVec.ofNat 8 (x.toNat % y.toNat) ++ BitVec.ofNat 8 (x.toNat / y.toNat)
    else freeWord free
  (r, flagsNZ y ccr)

/-- DIVXU.W: remainder in the upper word, quotient in the lower; N and Z describe the divisor (R199). -/
def aluDivxuW (free : Long) (y : Word) (x : Long) (ccr : Byte) : Alu 32 :=
  let r :=
    if y.toNat ≠ 0 ∧ x.toNat / y.toNat < 65536 then
      BitVec.ofNat 16 (x.toNat % y.toNat) ++ BitVec.ofNat 16 (x.toNat / y.toNat)
    else free
  (r, flagsNZ y ccr)

/-- N of DIVXS: the sign of the exact quotient; `UNSPEC(1)` where there is none (divisor 0) and where the quotient is 0
and the operands' signs differ (R200, 93 U3, U4). Log 19. -/
def divxsN (free : Long) (x y : Int) : Bool :=
  if y = 0 ∨ (x.tdiv y = 0 ∧ decide (x < 0) ≠ decide (y < 0)) then free.getLsbD 0
  else decide (x.tdiv y < 0)

/-- N and Z of DIVXS: Z describes the divisor (R200). -/
def flagsDivxs (free : Long) (x y : Int) (ccr : Byte) : Byte :=
  setFlag (setFlag ccr .N (divxsN free x y)) .Z (decide (y = 0))

/-- DIVXS.B: truncation toward zero, the remainder has the dividend's sign (R200, R204). -/
def aluDivxsB (free freeN : Long) (y : Byte) (x : Word) (ccr : Byte) : Alu 16 :=
  let q := x.toInt.tdiv y.toInt
  let rem := x.toInt - q * y.toInt
  let r :=
    if y.toInt ≠ 0 ∧ -128 ≤ q ∧ q ≤ 127 then BitVec.ofInt 8 rem ++ BitVec.ofInt 8 q else freeWord free
  (r, flagsDivxs freeN x.toInt y.toInt ccr)

/-- DIVXS.W: truncation toward zero, the remainder has the dividend's sign (R201, R204). -/
def aluDivxsW (free freeN : Long) (y : Word) (x : Long) (ccr : Byte) : Alu 32 :=
  let q := x.toInt.tdiv y.toInt
  let rem := x.toInt - q * y.toInt
  let r :=
    if y.toInt ≠ 0 ∧ -32768 ≤ q ∧ q ≤ 32767 then BitVec.ofInt 16 rem ++ BitVec.ofInt 16 q else free
  (r, flagsDivxs freeN x.toInt y.toInt ccr)

/-! ### Decimal adjustment (R196, R197) -/

/-- One row of an adjustment table. -/
structure AdjustRow where
  cBefore : Bool
  upperMin : Nat
  upperMax : Nat
  hBefore : Bool
  lowerMin : Nat
  lowerMax : Nat
  add : Byte
  cAfter : Bool
  deriving DecidableEq, Repr

/-- The table of DAA (R196). -/
def daaTable : List AdjustRow := [
  ⟨false, 0, 9, false, 0, 9, 0x00, false⟩,
  ⟨false, 0, 8, false, 10, 15, 0x06, false⟩,
  ⟨false, 0, 9, true, 0, 3, 0x06, false⟩,
  ⟨false, 10, 15, false, 0, 9, 0x60, true⟩,
  ⟨false, 9, 15, false, 10, 15, 0x66, true⟩,
  ⟨false, 10, 15, true, 0, 3, 0x66, true⟩,
  ⟨true, 0, 2, false, 0, 9, 0x60, true⟩,
  ⟨true, 0, 2, false, 10, 15, 0x66, true⟩,
  ⟨true, 0, 3, true, 0, 3, 0x66, true⟩]

/-- The table of DAS (R197). -/
def dasTable : List AdjustRow := [
  ⟨false, 0, 9, false, 0, 9, 0x00, false⟩,
  ⟨false, 0, 8, true, 6, 15, 0xFA, false⟩,
  ⟨true, 7, 15, false, 0, 9, 0xA0, true⟩,
  ⟨true, 6, 15, true, 6, 15, 0x9A, true⟩]

/-- Whether a row matches C, H and the digits before the instruction. -/
def AdjustRow.matches (row : AdjustRow) (d ccr : Byte) : Bool :=
  let upper := (d.extractLsb' 4 4).toNat
  let lower := (d.extractLsb' 0 4).toNat
  (row.cBefore == getFlag ccr .C) && (row.hBefore == getFlag ccr .H)
    && decide (row.upperMin ≤ upper) && decide (upper ≤ row.upperMax)
    && decide (row.lowerMin ≤ lower) && decide (lower ≤ row.lowerMax)

/-- The adjusted byte and C: from the matching row; outside the table both are free (93 U5). Log 20. -/
def adjusted (table : List AdjustRow) (free : Long) (d ccr : Byte) : Byte × Bool :=
  match table.find? fun row => AdjustRow.matches row d ccr with
  | some row => (d + row.add, row.cAfter)
  | none => (free.extractLsb' 0 8, free.getLsbD 8)

/-- DAA and DAS: N and Z of the result, C from the table, H and V free (R196, R197, 93 U5). Log 20. -/
def aluAdjust (table : List AdjustRow) (free : Long) (d ccr : Byte) : Alu 8 :=
  let r := adjusted table free d ccr
  (r.1, setFlag (setFlag (setFlag (flagsNZ r.1 ccr) .H (free.getLsbD 9)) .V (free.getLsbD 10)) .C r.2)

end Sys2Proof.Machine
end

