-- ==== Sys2Proof/Machine/Ops.lean ====
section
/-! DEFINITION. The shared operations: registers, the program counter, free values, calls, taking an exception and
returning from one. -/

namespace Sys2Proof.Machine

/-- What an instruction or a step answers. -/
abbrev Outcome := Host.Outcome State Fault Refusal

/-! ### General registers (R20 to R24) -/

/-- ERn. -/
def State.reg32 (s : State) (n : RegNum) : Long := s.er[n.val]

/-- Rn is bits 15 to 0 and En bits 31 to 16 of ERn (R21). -/
def State.reg16 (s : State) : Reg16 → Word
  | .r n => (s.reg32 n).extractLsb' 0 16
  | .e n => (s.reg32 n).extractLsb' 16 16

/-- RnL is bits 7 to 0 and RnH bits 15 to 8 of ERn (R22). -/
def State.reg8 (s : State) : Reg8 → Byte
  | .h n => (s.reg32 n).extractLsb' 8 8
  | .l n => (s.reg32 n).extractLsb' 0 8

/-- Writes ERn. -/
def State.setReg32 (s : State) (n : RegNum) (v : Long) : State := { s with er := s.er.set n.val v }

/-- A longword with its lower or upper half replaced. -/
def putWord (x : Long) (v : Word) : Reg16 → Long
  | .r _ => x.extractLsb' 16 16 ++ v
  | .e _ => v ++ x.extractLsb' 0 16

/-- A longword with its byte 0 or byte 1 replaced. -/
def putByte (x : Long) (v : Byte) : Reg8 → Long
  | .h _ => x.extractLsb' 16 16 ++ v ++ x.extractLsb' 0 8
  | .l _ => x.extractLsb' 8 24 ++ v

/-- Writes Rn or En: "A write to a view changes exactly the bits of that view" (R23). -/
def State.setReg16 (s : State) (r : Reg16) (v : Word) : State :=
  s.setReg32 r.num (putWord (s.reg32 r.num) v r)

/-- Writes RnH or RnL: "A write to a view changes exactly the bits of that view" (R23). -/
def State.setReg8 (s : State) (r : Reg8) (v : Byte) : State :=
  s.setReg32 r.num (putByte (s.reg32 r.num) v r)

/-- Writes CCR. -/
def State.setCcr (s : State) (v : Byte) : State := { s with ccr := v }

/-- A bit of CCR. -/
def State.flag (s : State) (f : Flag) : Bool := getFlag s.ccr f

/-! ### The program counter (R26 to R28) -/

/-- Writes PC: "every write to PC clears" bit 0 (R27, 92 D3). Log 9. -/
def State.setPc (s : State) (a : Addr) : State := { s with pc := evenAddr a }

/-- `next`: the address after an instruction of `len` bytes, modulo 2^24 (R10, R28). Log 9. -/
def State.nextPc (s : State) (len : Nat) : Addr := s.pc + BitVec.ofNat 24 len

/-- `PC <- next` (R28). -/
def State.advance (s : State) (len : Nat) : State := s.setPc (s.nextPc len)

/-- `ea24(v)`: "the lower 24 bits" (R71). -/
def ea24 (v : Long) : Addr := v.extractLsb' 0 24

/-- The bytes a store of an instruction must leave alone: the instruction and the 4 bytes that follow it (R104).
Log 13. -/
def window (len : Nat) : Nat := len + 4

/-! ### Values the manual leaves open (93_implementation_defined.md) -/

/-- The next free value. Log 18. -/
def State.freeDraw (s : State) : Long := Config.freeValue s.draws

/-- The free value after that. -/
def State.freeDraw2 (s : State) : Long := Config.freeValue (s.draws + 1)

/-- A free byte. -/
def State.freeByte (s : State) : Byte := s.freeDraw.extractLsb' 0 8

/-- Moves past `k` free values. -/
def State.drawn (s : State) (k : Nat) : State := { s with draws := s.draws + k }

/-- Of the `n` cells from `a` on, those that `which` picks take free values. Log 18. -/
def State.freeCells (s : State) (which : Nat → Bool) (n a : Nat) : State :=
  { s with
    mem := Memory.scramble which (fun p => (Config.freeValue (s.draws + (p - a))).extractLsb' 0 8) n a s.mem
    draws := s.draws + n }

/-! ### Processing state and interrupt hold-off -/

/-- Sets the processing state (R400). -/
def State.setPstate (s : State) (p : ProcessingState) : State := { s with pstate := p }

/-- Sets `irq_inhibit` (R332, R381). -/
def State.holdOff (s : State) : State := { s with irqInhibit := true }

/-- "The on-chip supporting modules are reset": their requests end, the interrupt controller's ISCR, ISR and IPRB return
to their initial values, and the registers of the other modules that the platform supplies as cells are "initialized", to
values that are not in the extract (R60): free values, log 17. Where `ports` is false, those of I/O ports "remain in their
existing states". Software standby mode keeps SYSCR and IPRA (R407), and IER, which decides what ends it (92 D14). Log
27. -/
def State.resetModules (s : State) (ports : Bool) : State :=
  { s.freeCells (s.moduleCell ports) s.ioWindow (topBase s.mcuMode + 0xFF1C) with
    iscr := 0#8, isr := 0#8, isrRead := 0#8, iprb := 0#8, moduleRequests := [] }

/-- The control registers "initialized": by a reset and in hardware standby mode (R60, R370, R405). A pending NMI
request is dropped, and so is an NMI edge seen while RES is low: the model's choice, log 37. -/
def State.initialiseControl (s : State) : State :=
  { s.resetModules true with syscr := 0x0B#8, ier := 0#8, ipra := 0#8, nmiRequest := false, nmiDuringTransfer := none }

/-- "The I bit in the condition code register is set to 1 by a reset" (R370, R406). -/
def State.setI (s : State) : State := s.setCcr (setFlag s.ccr .I true)

/-- RES goes low: "all current processing stops and the CPU enters the reset state" (R406). -/
def State.enterReset (s : State) : State := (s.initialiseControl.setI).setPstate .reset

/-- RES has gone low during an instruction or an interrupt entry: it is abandoned, "memory it had already written stays
written" (R406). -/
def State.abandon (s : State) : State := { s.enterReset with resLow := true, resDuring := none }

/-- A result as the outcome of an instruction. -/
def finish : Res State → Outcome
  | .ok s => .next s
  | .error (.fault f) => .fault f
  | .error (.refusal r) => .refused r
  | .error (.abandoned s) => .next s.abandon

/-! ### Stack, calls, exceptions -/

/-- ER7, the stack pointer (R24). -/
def sp : RegNum := 7

/-- Pushes a longword: `ER7 <- ER7 - 4`, then a longword write at ER7 (R312, R386). -/
def State.pushLong (s : State) (window : Nat) (v : Long) : Res State :=
  let s1 := s.setReg32 sp (s.reg32 sp - 4)
  s1.storeLong window (ea24 (s1.reg32 sp)) v

/-- Pops a longword: a longword read at ER7, then `ER7 <- ER7 + 4` (R311, R321). -/
def State.popLong (s : State) : Res (Long × State) := do
  let (v, s1) ← s.readLong (ea24 (s.reg32 sp))
  return (v, s1.setReg32 sp (s1.reg32 sp + 4))

/-- Calls a subroutine from an instruction of `len` bytes: pushes the reserved byte, whose value is free, and `next`
(R312, 93 U9), then branches. Log 18. -/
def State.call (s : State) (len : Nat) (target : Addr) : Res State := do
  let s1 ← (s.drawn 1).pushLong (window len) (s.freeByte ++ s.nextPc len)
  return s1.setPc target

/-- SYSCR bit 3, UE (R46). -/
def State.userBitEnabled (s : State) : Bool := s.syscr.getLsbD 3

/-- The interrupt mask bits that exception handling sets: I, and UI when UE is 0 (R384, R386). -/
def State.maskInterrupts (s : State) : State :=
  s.setCcr (if s.userBitEnabled then setFlag s.ccr .I true else setFlag (setFlag s.ccr .I true) .UI true)

/-- `start = MemRead(4 * k, 4)[23:0]; pc <- start` (R365). -/
def State.vectorTo (s : State) (vector : Nat) : Res State := do
  let (v, s1) ← s.readLong (BitVec.ofNat 24 (4 * vector))
  return s1.setPc (ea24 v)

/-- TAKING AN EXCEPTION, shared by interrupts and TRAPA (R386): push CCR and the return address (R389), set the mask
bits, go to the vector's address. `window` protects the bytes of an executing TRAPA; 0 protects none. -/
def State.takeException (s : State) (window vector : Nat) (ret : Addr) : Res State := do
  let s1 ← s.pushLong window (s.ccr ++ ret)
  s1.maskInterrupts.vectorTo vector

/-- RETURNING FROM AN EXCEPTION: pops the frame, CCR from its first byte, PC from the other three (R321, R390). -/
def State.returnFromException (s : State) : Res State := do
  let (v, s1) ← s.popLong
  return (s1.setCcr (v.extractLsb' 24 8)).setPc (ea24 v)

end Sys2Proof.Machine
end

