-- ==== Sys2Proof/Machine/Operands.lean ====
section
/-! DEFINITION. The operand forms (R82 to R88, R270) and the shapes of instruction the families share: what is read,
what is computed, what is written, in that order. -/

namespace Sys2Proof.Machine

/-- The addressing modes of a memory operand (R83 to R87). -/
inductive Mode where
  | ind (n : RegNum)
  | disp16 (disp : BitVec 16) (n : RegNum)
  | disp24 (disp : BitVec 24) (n : RegNum)
  | postInc (n : RegNum)
  | preDec (n : RegNum)
  | abs8 (aa : BitVec 8)
  | abs16 (aa : BitVec 16)
  | abs24 (aa : BitVec 24)
  deriving DecidableEq, Repr

/-- The effective address of an operand of `nb` bytes, in the state before the instruction (R83 to R87). -/
def State.ea (s : State) (nb : Nat) : Mode → Addr
  | .ind n => ea24 (s.reg32 n)
  | .disp16 d n => ea24 (s.reg32 n + d.signExtend 32)
  | .disp24 d n => ea24 (s.reg32 n + d.zeroExtend 32)
  | .postInc n => ea24 (s.reg32 n)
  | .preDec n => ea24 (s.reg32 n - BitVec.ofNat 32 nb)
  | .abs8 aa => 0xFFFF#16 ++ aa
  | .abs16 aa => aa.signExtend 24
  | .abs24 aa => aa

/-- What the mode does to its register before the access: "The result is also stored in the address register" (R86). -/
def State.preDecrement (s : State) (nb : Nat) : Mode → State
  | .preDec n => s.setReg32 n (s.reg32 n - BitVec.ofNat 32 nb)
  | .ind _ | .disp16 .. | .disp24 .. | .postInc _ | .abs8 _ | .abs16 _ | .abs24 _ => s

/-- What the mode does to its register after the access: "1, 2, or 4 is added to the address register contents (32
bits)" (R85). -/
def State.postIncrement (s : State) (nb : Nat) : Mode → State
  | .postInc n => s.setReg32 n (s.reg32 n + BitVec.ofNat 32 nb)
  | .ind _ | .disp16 .. | .disp24 .. | .preDec _ | .abs8 _ | .abs16 _ | .abs24 _ => s

/-- The register a mode modifies. -/
def Mode.modifies : Mode → Option RegNum
  | .postInc n | .preDec n => some n
  | .ind _ | .disp16 .. | .disp24 .. | .abs8 _ | .abs16 _ | .abs24 _ => none

/-- "The address register is also the data register": refused (R163, 92 D5). Log 12. -/
def Mode.check (m : Mode) (data : RegNum) : Res Unit :=
  if m.modifies = some data then .error (.refusal .addressRegisterIsData) else .ok ()

/-! ### Register operands: `Rd op source → Rd` -/

/-- A byte operation on Rd: `f` makes the result and the CCR of the operand and the CCR. -/
def modifyB (f : Byte → Byte → Alu 8) (rd : Reg8) (len : Nat) (s : State) : Outcome :=
  let r := f (s.reg8 rd) s.ccr
  .next (((s.setReg8 rd r.1).setCcr r.2).advance len)

/-- A word operation on Rd. -/
def modifyW (f : Word → Byte → Alu 16) (rd : Reg16) (len : Nat) (s : State) : Outcome :=
  let r := f (s.reg16 rd) s.ccr
  .next (((s.setReg16 rd r.1).setCcr r.2).advance len)

/-- A longword operation on ERd. -/
def modifyL (f : Long → Byte → Alu 32) (rd : RegNum) (len : Nat) (s : State) : Outcome :=
  let r := f (s.reg32 rd) s.ccr
  .next (((s.setReg32 rd r.1).setCcr r.2).advance len)

/-- A comparison: the result is discarded, CCR is written (R183). -/
def compare (ccr : Byte) (len : Nat) (s : State) : Outcome :=
  .next ((s.setCcr ccr).advance len)

/-! ### Loads and stores (R150): address, access, post-increment, destination, flags, PC -/

/-- MOV.B from memory (R157). -/
def loadB (m : Mode) (rd : Reg8) (len : Nat) (s : State) : Outcome :=
  finish do
    m.check rd.num
    let (v, s1) ← s.readByte (s.ea 1 m)
    return (((s1.postIncrement 1 m).setReg8 rd v).setCcr (flagsNZ0 v s.ccr)).advance len

/-- MOV.W from memory (R158). -/
def loadW (m : Mode) (rd : Reg16) (len : Nat) (s : State) : Outcome :=
  finish do
    m.check rd.num
    let (v, s1) ← s.readWord (s.ea 2 m)
    return (((s1.postIncrement 2 m).setReg16 rd v).setCcr (flagsNZ0 v s.ccr)).advance len

/-- MOV.L from memory (R159). -/
def loadL (m : Mode) (rd : RegNum) (len : Nat) (s : State) : Outcome :=
  finish do
    m.check rd
    let (v, s1) ← s.readLong (s.ea 4 m)
    return (((s1.postIncrement 4 m).setReg32 rd v).setCcr (flagsNZ0 v s.ccr)).advance len

/-- MOV.B to memory (R160). -/
def storeB (rs : Reg8) (m : Mode) (len : Nat) (s : State) : Outcome :=
  finish do
    m.check rs.num
    let v := s.reg8 rs
    let s1 ← (s.preDecrement 1 m).storeByte (window len) (s.ea 1 m) v
    return (s1.setCcr (flagsNZ0 v s.ccr)).advance len

/-- MOV.W to memory (R161). -/
def storeW (rs : Reg16) (m : Mode) (len : Nat) (s : State) : Outcome :=
  finish do
    m.check rs.num
    let v := s.reg16 rs
    let s1 ← (s.preDecrement 2 m).storeWord (window len) (s.ea 2 m) v
    return (s1.setCcr (flagsNZ0 v s.ccr)).advance len

/-- MOV.L to memory (R162). -/
def storeL (rs : RegNum) (m : Mode) (len : Nat) (s : State) : Outcome :=
  finish do
    m.check rs
    let v := s.reg32 rs
    let s1 ← (s.preDecrement 4 m).storeLong (window len) (s.ea 4 m) v
    return (s1.setCcr (flagsNZ0 v s.ccr)).advance len

/-! ### CCR and memory (R325, R327) -/

/-- LDC from memory: a word is read, its upper byte is CCR, the odd byte is discarded; hold-off (R325, R332). -/
def loadCcr (m : Mode) (len : Nat) (s : State) : Outcome :=
  finish do
    let (w, s1) ← s.readWord (s.ea 2 m)
    return (((s1.postIncrement 2 m).setCcr (w.extractLsb' 8 8)).advance len).holdOff

/-- STC to memory: a word is written, CCR above a free byte (R327, 93 U10). Log 18. -/
def storeCcr (m : Mode) (len : Nat) (s : State) : Outcome :=
  finish do
    let s1 ← ((s.drawn 1).preDecrement 2 m).storeWord (window len) (s.ea 2 m) (s.ccr ++ s.freeByte)
    return s1.advance len

/-- A write of CCR from the program, with the hold-off (R323, R324, R328 to R330, R332). -/
def writeCcr (v : Byte) (len : Nat) (s : State) : Outcome :=
  .next ((s.setCcr v).advance len).holdOff

/-! ### Bit operands (R270, R271) -/

/-- The operand byte of a bit instruction. -/
inductive BitOperand where
  | reg (rd : Reg8)
  | ind (erd : RegNum)
  | abs8 (aa : BitVec 8)
  deriving DecidableEq, Repr

/-- The addressing mode of a bit operand in memory. -/
def BitOperand.mode : BitOperand → Option Mode
  | .reg _ => none
  | .ind n => some (.ind n)
  | .abs8 aa => some (.abs8 aa)

/-- The length of a bit instruction: 2 bytes on a register, 4 in memory (R270). -/
def BitOperand.len : BitOperand → Nat
  | .reg _ => 2
  | .ind _ | .abs8 _ => 4

/-- Reads the operand byte: one byte read in memory (R270). -/
def State.readBitOperand (s : State) : BitOperand → Res (Byte × State)
  | .reg rd => .ok (s.reg8 rd, s)
  | .ind n => s.readByte (s.ea 1 (.ind n))
  | .abs8 aa => s.readByte (s.ea 1 (.abs8 aa))

/-- Writes the operand byte: one byte write to the address it was read from (R286). -/
def State.writeBitOperand (s : State) (v : Byte) : BitOperand → Res State
  | .reg rd => .ok (s.setReg8 rd v)
  | .ind n => s.storeByte (window 4) (s.ea 1 (.ind n)) v
  | .abs8 aa => s.storeByte (window 4) (s.ea 1 (.abs8 aa)) v

/-- The bit number in "the lower 3 bits of a general register" (R271). -/
def State.bitNumber (s : State) (rn : Reg8) : BitVec 3 := (s.reg8 rn).extractLsb' 0 3

/-- Bit `b` of a byte (R271). -/
def bitOfByte (v : Byte) (b : BitVec 3) : Bool := v.getLsbD b.toNat

/-- A byte with bit `b` set or cleared (R272, R273). -/
def putBit (v : Byte) (b : BitVec 3) (x : Bool) : Byte :=
  if x then v ||| (1#8 <<< b.toNat) else v &&& ~~~(1#8 <<< b.toNat)

/-- The writing forms: read, modify one bit, write back, unconditionally; no flag changes (R286). -/
def modifyBit (f : Bool → Bool) (b : BitVec 3) (o : BitOperand) (s : State) : Outcome :=
  finish do
    let (v, s1) ← s.readBitOperand o
    let s2 ← s1.writeBitOperand (putBit v b (f (bitOfByte v b))) o
    return s2.advance o.len

/-- The read-only forms: one flag is written from the bit (R270). -/
def testBit (f : Flag) (g : Bool → Bool) (b : BitVec 3) (o : BitOperand) (s : State) : Outcome :=
  finish do
    let (v, s1) ← s.readBitOperand o
    return (s1.setCcr (setFlag s.ccr f (g (bitOfByte v b)))).advance o.len

end Sys2Proof.Machine
end

