-- ==== Sys2Proof/Machine/Arithmetic.lean ====
section
/-! DEFINITION. Arithmetic (41_arithmetic.md). -/

namespace Sys2Proof.Machine

/-- The constant in the assembler line of INC and DEC (R188, R189). -/
def incAmount : IncStep → Nat
  | .one => 1
  | .two => 2

/-- The constant in the assembler line of ADDS and SUBS (R190, R191). -/
def addsAmount : AddsStep → Nat
  | .one => 1
  | .two => 2
  | .four => 4

/-- `ADD.B #xx:8,Rd` (R181). -/
def execAddBImm (imm : BitVec 8) (rd : Reg8) (s : State) : Outcome :=
  modifyB (aluAdd imm) rd 2 s

/-- `ADD.B Rs,Rd` (R181). -/
def execAddBReg (rs rd : Reg8) (s : State) : Outcome :=
  modifyB (aluAdd (s.reg8 rs)) rd 2 s

/-- `ADD.W #xx:16,Rd` (R181). -/
def execAddWImm (imm : BitVec 16) (rd : Reg16) (s : State) : Outcome :=
  modifyW (aluAdd imm) rd 4 s

/-- `ADD.W Rs,Rd` (R181). -/
def execAddWReg (rs rd : Reg16) (s : State) : Outcome :=
  modifyW (aluAdd (s.reg16 rs)) rd 2 s

/-- `ADD.L #xx:32,ERd` (R181). -/
def execAddLImm (imm : BitVec 32) (erd : RegNum) (s : State) : Outcome :=
  modifyL (aluAdd imm) erd 6 s

/-- `ADD.L ERs,ERd` (R181). -/
def execAddLReg (ers erd : RegNum) (s : State) : Outcome :=
  modifyL (aluAdd (s.reg32 ers)) erd 2 s

/-- `SUB.B Rs,Rd` (R182). -/
def execSubBReg (rs rd : Reg8) (s : State) : Outcome :=
  modifyB (aluSub (s.reg8 rs)) rd 2 s

/-- `SUB.W #xx:16,Rd` (R182). -/
def execSubWImm (imm : BitVec 16) (rd : Reg16) (s : State) : Outcome :=
  modifyW (aluSub imm) rd 4 s

/-- `SUB.W Rs,Rd` (R182). -/
def execSubWReg (rs rd : Reg16) (s : State) : Outcome :=
  modifyW (aluSub (s.reg16 rs)) rd 2 s

/-- `SUB.L #xx:32,ERd` (R182). -/
def execSubLImm (imm : BitVec 32) (erd : RegNum) (s : State) : Outcome :=
  modifyL (aluSub imm) erd 6 s

/-- `SUB.L ERs,ERd` (R182). -/
def execSubLReg (ers erd : RegNum) (s : State) : Outcome :=
  modifyL (aluSub (s.reg32 ers)) erd 2 s

/-- `CMP.B #xx:8,Rd` (R183). -/
def execCmpBImm (imm : BitVec 8) (rd : Reg8) (s : State) : Outcome :=
  compare (aluSub imm (s.reg8 rd) s.ccr).2 2 s

/-- `CMP.B Rs,Rd` (R183). -/
def execCmpBReg (rs rd : Reg8) (s : State) : Outcome :=
  compare (aluSub (s.reg8 rs) (s.reg8 rd) s.ccr).2 2 s

/-- `CMP.W #xx:16,Rd` (R183). -/
def execCmpWImm (imm : BitVec 16) (rd : Reg16) (s : State) : Outcome :=
  compare (aluSub imm (s.reg16 rd) s.ccr).2 4 s

/-- `CMP.W Rs,Rd` (R183). -/
def execCmpWReg (rs rd : Reg16) (s : State) : Outcome :=
  compare (aluSub (s.reg16 rs) (s.reg16 rd) s.ccr).2 2 s

/-- `CMP.L #xx:32,ERd` (R183). -/
def execCmpLImm (imm : BitVec 32) (erd : RegNum) (s : State) : Outcome :=
  compare (aluSub imm (s.reg32 erd) s.ccr).2 6 s

/-- `CMP.L ERs,ERd` (R183). -/
def execCmpLReg (ers erd : RegNum) (s : State) : Outcome :=
  compare (aluSub (s.reg32 ers) (s.reg32 erd) s.ccr).2 2 s

/-- `NEG.B Rd` (R184). -/
def execNegB (rd : Reg8) (s : State) : Outcome :=
  modifyB aluNeg rd 2 s

/-- `NEG.W Rd` (R184). -/
def execNegW (rd : Reg16) (s : State) : Outcome :=
  modifyW aluNeg rd 2 s

/-- `NEG.L ERd` (R184). -/
def execNegL (erd : RegNum) (s : State) : Outcome :=
  modifyL aluNeg erd 2 s

/-- `ADDX #xx:8,Rd` (R186). -/
def execAddxImm (imm : BitVec 8) (rd : Reg8) (s : State) : Outcome :=
  modifyB (aluAddx imm) rd 2 s

/-- `ADDX Rs,Rd` (R186). -/
def execAddxReg (rs rd : Reg8) (s : State) : Outcome :=
  modifyB (aluAddx (s.reg8 rs)) rd 2 s

/-- `SUBX #xx:8,Rd` (R187). -/
def execSubxImm (imm : BitVec 8) (rd : Reg8) (s : State) : Outcome :=
  modifyB (aluSubx imm) rd 2 s

/-- `SUBX Rs,Rd` (R187). -/
def execSubxReg (rs rd : Reg8) (s : State) : Outcome :=
  modifyB (aluSubx (s.reg8 rs)) rd 2 s

/-- `INC.B Rd` (R188). -/
def execIncB (rd : Reg8) (s : State) : Outcome :=
  modifyB (aluInc 1) rd 2 s

/-- `INC.W #1,Rd` and `INC.W #2,Rd` (R188). -/
def execIncW (k : IncStep) (rd : Reg16) (s : State) : Outcome :=
  modifyW (aluInc (incAmount k)) rd 2 s

/-- `INC.L #1,ERd` and `INC.L #2,ERd` (R188). -/
def execIncL (k : IncStep) (erd : RegNum) (s : State) : Outcome :=
  modifyL (aluInc (incAmount k)) erd 2 s

/-- `DEC.B Rd` (R189). -/
def execDecB (rd : Reg8) (s : State) : Outcome :=
  modifyB (aluDec 1) rd 2 s

/-- `DEC.W #1,Rd` and `DEC.W #2,Rd` (R189). -/
def execDecW (k : IncStep) (rd : Reg16) (s : State) : Outcome :=
  modifyW (aluDec (incAmount k)) rd 2 s

/-- `DEC.L #1,ERd` and `DEC.L #2,ERd` (R189). -/
def execDecL (k : IncStep) (erd : RegNum) (s : State) : Outcome :=
  modifyL (aluDec (incAmount k)) erd 2 s

/-- `ADDS #1, #2, #4, ERd`: no flag changes (R190). -/
def execAdds (k : AddsStep) (erd : RegNum) (s : State) : Outcome :=
  .next ((s.setReg32 erd (s.reg32 erd + BitVec.ofNat 32 (addsAmount k))).advance 2)

/-- `SUBS #1, #2, #4, ERd`: no flag changes (R191). -/
def execSubs (k : AddsStep) (erd : RegNum) (s : State) : Outcome :=
  .next ((s.setReg32 erd (s.reg32 erd - BitVec.ofNat 32 (addsAmount k))).advance 2)

/-- `MULXU.B Rs,Rd` (R192). -/
def execMulxuB (rs : Reg8) (rd : Reg16) (s : State) : Outcome :=
  modifyW (aluMulxuB (s.reg8 rs)) rd 2 s

/-- `MULXU.W Rs,ERd` (R193). -/
def execMulxuW (rs : Reg16) (erd : RegNum) (s : State) : Outcome :=
  modifyL (aluMulxuW (s.reg16 rs)) erd 2 s

/-- `MULXS.B Rs,Rd` (R194). -/
def execMulxsB (rs : Reg8) (rd : Reg16) (s : State) : Outcome :=
  modifyW (aluMulxsB (s.reg8 rs)) rd 4 s

/-- `MULXS.W Rs,ERd` (R195). -/
def execMulxsW (rs : Reg16) (erd : RegNum) (s : State) : Outcome :=
  modifyL (aluMulxsW (s.reg16 rs)) erd 4 s

/-- `DAA Rd`; values left open are free (log 20) (R196). -/
def execDaa (rd : Reg8) (s : State) : Outcome :=
  modifyB (aluAdjust daaTable s.freeDraw) rd 2 (s.drawn 1)

/-- `DAS Rd`; values left open are free (log 20) (R197). -/
def execDas (rd : Reg8) (s : State) : Outcome :=
  modifyB (aluAdjust dasTable s.freeDraw) rd 2 (s.drawn 1)

/-- `DIVXU.B Rs,Rd`; values left open are free (log 19) (R198). -/
def execDivxuB (rs : Reg8) (rd : Reg16) (s : State) : Outcome :=
  modifyW (aluDivxuB s.freeDraw (s.reg8 rs)) rd 2 (s.drawn 1)

/-- `DIVXU.W Rs,ERd`; values left open are free (log 19) (R199). -/
def execDivxuW (rs : Reg16) (erd : RegNum) (s : State) : Outcome :=
  modifyL (aluDivxuW s.freeDraw (s.reg16 rs)) erd 2 (s.drawn 1)

/-- `DIVXS.B Rs,Rd`; values left open are free (log 19) (R200). -/
def execDivxsB (rs : Reg8) (rd : Reg16) (s : State) : Outcome :=
  modifyW (aluDivxsB s.freeDraw s.freeDraw2 (s.reg8 rs)) rd 4 (s.drawn 2)

/-- `DIVXS.W Rs,ERd`; values left open are free (log 19) (R201). -/
def execDivxsW (rs : Reg16) (erd : RegNum) (s : State) : Outcome :=
  modifyL (aluDivxsW s.freeDraw s.freeDraw2 (s.reg16 rs)) erd 4 (s.drawn 2)

/-- `EXTS.W Rd` (R202). -/
def execExtsW (rd : Reg16) (s : State) : Outcome :=
  modifyW aluExtsW rd 2 s

/-- `EXTS.L ERd` (R202). -/
def execExtsL (erd : RegNum) (s : State) : Outcome :=
  modifyL aluExtsL erd 2 s

/-- `EXTU.W Rd` (R203). -/
def execExtuW (rd : Reg16) (s : State) : Outcome :=
  modifyW aluExtuW rd 2 s

/-- `EXTU.L ERd` (R203). -/
def execExtuL (erd : RegNum) (s : State) : Outcome :=
  modifyL aluExtuL erd 2 s

end Sys2Proof.Machine
end

