-- ==== Sys2Proof/Machine/BitManipulation.lean ====
section
/-! DEFINITION. Bit manipulation (44_bit_manipulation.md): each instruction on Rd, @ERd and @aa:8. -/

namespace Sys2Proof.Machine

/-- `BSET #xx:3,Rd` (R272). -/
def execBsetImmReg (bit : BitVec 3) (rd : Reg8) (s : State) : Outcome :=
  modifyBit (fun _ => true) bit (.reg rd) s

/-- `BSET #xx:3,@ERd` (R272). -/
def execBsetImmInd (bit : BitVec 3) (erd : RegNum) (s : State) : Outcome :=
  modifyBit (fun _ => true) bit (.ind erd) s

/-- `BSET #xx:3,@aa:8` (R272). -/
def execBsetImmAbs8 (bit : BitVec 3) (aa : BitVec 8) (s : State) : Outcome :=
  modifyBit (fun _ => true) bit (.abs8 aa) s

/-- `BSET Rn,Rd` (R272). -/
def execBsetRegReg (rn rd : Reg8) (s : State) : Outcome :=
  modifyBit (fun _ => true) (s.bitNumber rn) (.reg rd) s

/-- `BSET Rn,@ERd` (R272). -/
def execBsetRegInd (rn : Reg8) (erd : RegNum) (s : State) : Outcome :=
  modifyBit (fun _ => true) (s.bitNumber rn) (.ind erd) s

/-- `BSET Rn,@aa:8` (R272). -/
def execBsetRegAbs8 (rn : Reg8) (aa : BitVec 8) (s : State) : Outcome :=
  modifyBit (fun _ => true) (s.bitNumber rn) (.abs8 aa) s

/-- `BCLR #xx:3,Rd` (R273). -/
def execBclrImmReg (bit : BitVec 3) (rd : Reg8) (s : State) : Outcome :=
  modifyBit (fun _ => false) bit (.reg rd) s

/-- `BCLR #xx:3,@ERd` (R273). -/
def execBclrImmInd (bit : BitVec 3) (erd : RegNum) (s : State) : Outcome :=
  modifyBit (fun _ => false) bit (.ind erd) s

/-- `BCLR #xx:3,@aa:8` (R273). -/
def execBclrImmAbs8 (bit : BitVec 3) (aa : BitVec 8) (s : State) : Outcome :=
  modifyBit (fun _ => false) bit (.abs8 aa) s

/-- `BCLR Rn,Rd` (R273). -/
def execBclrRegReg (rn rd : Reg8) (s : State) : Outcome :=
  modifyBit (fun _ => false) (s.bitNumber rn) (.reg rd) s

/-- `BCLR Rn,@ERd` (R273). -/
def execBclrRegInd (rn : Reg8) (erd : RegNum) (s : State) : Outcome :=
  modifyBit (fun _ => false) (s.bitNumber rn) (.ind erd) s

/-- `BCLR Rn,@aa:8` (R273). -/
def execBclrRegAbs8 (rn : Reg8) (aa : BitVec 8) (s : State) : Outcome :=
  modifyBit (fun _ => false) (s.bitNumber rn) (.abs8 aa) s

/-- `BNOT #xx:3,Rd` (R274). -/
def execBnotImmReg (bit : BitVec 3) (rd : Reg8) (s : State) : Outcome :=
  modifyBit (fun x => !x) bit (.reg rd) s

/-- `BNOT #xx:3,@ERd` (R274). -/
def execBnotImmInd (bit : BitVec 3) (erd : RegNum) (s : State) : Outcome :=
  modifyBit (fun x => !x) bit (.ind erd) s

/-- `BNOT #xx:3,@aa:8` (R274). -/
def execBnotImmAbs8 (bit : BitVec 3) (aa : BitVec 8) (s : State) : Outcome :=
  modifyBit (fun x => !x) bit (.abs8 aa) s

/-- `BNOT Rn,Rd` (R274). -/
def execBnotRegReg (rn rd : Reg8) (s : State) : Outcome :=
  modifyBit (fun x => !x) (s.bitNumber rn) (.reg rd) s

/-- `BNOT Rn,@ERd` (R274). -/
def execBnotRegInd (rn : Reg8) (erd : RegNum) (s : State) : Outcome :=
  modifyBit (fun x => !x) (s.bitNumber rn) (.ind erd) s

/-- `BNOT Rn,@aa:8` (R274). -/
def execBnotRegAbs8 (rn : Reg8) (aa : BitVec 8) (s : State) : Outcome :=
  modifyBit (fun x => !x) (s.bitNumber rn) (.abs8 aa) s

/-- `BTST #xx:3,Rd` (R275). -/
def execBtstImmReg (bit : BitVec 3) (rd : Reg8) (s : State) : Outcome :=
  testBit .Z (fun x => !x) bit (.reg rd) s

/-- `BTST #xx:3,@ERd` (R275). -/
def execBtstImmInd (bit : BitVec 3) (erd : RegNum) (s : State) : Outcome :=
  testBit .Z (fun x => !x) bit (.ind erd) s

/-- `BTST #xx:3,@aa:8` (R275). -/
def execBtstImmAbs8 (bit : BitVec 3) (aa : BitVec 8) (s : State) : Outcome :=
  testBit .Z (fun x => !x) bit (.abs8 aa) s

/-- `BTST Rn,Rd` (R275). -/
def execBtstRegReg (rn rd : Reg8) (s : State) : Outcome :=
  testBit .Z (fun x => !x) (s.bitNumber rn) (.reg rd) s

/-- `BTST Rn,@ERd` (R275). -/
def execBtstRegInd (rn : Reg8) (erd : RegNum) (s : State) : Outcome :=
  testBit .Z (fun x => !x) (s.bitNumber rn) (.ind erd) s

/-- `BTST Rn,@aa:8` (R275). -/
def execBtstRegAbs8 (rn : Reg8) (aa : BitVec 8) (s : State) : Outcome :=
  testBit .Z (fun x => !x) (s.bitNumber rn) (.abs8 aa) s

/-- `BAND #xx:3,Rd` (R276). -/
def execBandReg (bit : BitVec 3) (rd : Reg8) (s : State) : Outcome :=
  testBit .C (fun x => s.flag .C && x) bit (.reg rd) s

/-- `BAND #xx:3,@ERd` (R276). -/
def execBandInd (bit : BitVec 3) (erd : RegNum) (s : State) : Outcome :=
  testBit .C (fun x => s.flag .C && x) bit (.ind erd) s

/-- `BAND #xx:3,@aa:8` (R276). -/
def execBandAbs8 (bit : BitVec 3) (aa : BitVec 8) (s : State) : Outcome :=
  testBit .C (fun x => s.flag .C && x) bit (.abs8 aa) s

/-- `BIAND #xx:3,Rd` (R277). -/
def execBiandReg (bit : BitVec 3) (rd : Reg8) (s : State) : Outcome :=
  testBit .C (fun x => s.flag .C && !x) bit (.reg rd) s

/-- `BIAND #xx:3,@ERd` (R277). -/
def execBiandInd (bit : BitVec 3) (erd : RegNum) (s : State) : Outcome :=
  testBit .C (fun x => s.flag .C && !x) bit (.ind erd) s

/-- `BIAND #xx:3,@aa:8` (R277). -/
def execBiandAbs8 (bit : BitVec 3) (aa : BitVec 8) (s : State) : Outcome :=
  testBit .C (fun x => s.flag .C && !x) bit (.abs8 aa) s

/-- `BOR #xx:3,Rd` (R278). -/
def execBorReg (bit : BitVec 3) (rd : Reg8) (s : State) : Outcome :=
  testBit .C (fun x => s.flag .C || x) bit (.reg rd) s

/-- `BOR #xx:3,@ERd` (R278). -/
def execBorInd (bit : BitVec 3) (erd : RegNum) (s : State) : Outcome :=
  testBit .C (fun x => s.flag .C || x) bit (.ind erd) s

/-- `BOR #xx:3,@aa:8` (R278). -/
def execBorAbs8 (bit : BitVec 3) (aa : BitVec 8) (s : State) : Outcome :=
  testBit .C (fun x => s.flag .C || x) bit (.abs8 aa) s

/-- `BIOR #xx:3,Rd` (R279). -/
def execBiorReg (bit : BitVec 3) (rd : Reg8) (s : State) : Outcome :=
  testBit .C (fun x => s.flag .C || !x) bit (.reg rd) s

/-- `BIOR #xx:3,@ERd` (R279). -/
def execBiorInd (bit : BitVec 3) (erd : RegNum) (s : State) : Outcome :=
  testBit .C (fun x => s.flag .C || !x) bit (.ind erd) s

/-- `BIOR #xx:3,@aa:8` (R279). -/
def execBiorAbs8 (bit : BitVec 3) (aa : BitVec 8) (s : State) : Outcome :=
  testBit .C (fun x => s.flag .C || !x) bit (.abs8 aa) s

/-- `BXOR #xx:3,Rd` (R280). -/
def execBxorReg (bit : BitVec 3) (rd : Reg8) (s : State) : Outcome :=
  testBit .C (fun x => s.flag .C ^^ x) bit (.reg rd) s

/-- `BXOR #xx:3,@ERd` (R280). -/
def execBxorInd (bit : BitVec 3) (erd : RegNum) (s : State) : Outcome :=
  testBit .C (fun x => s.flag .C ^^ x) bit (.ind erd) s

/-- `BXOR #xx:3,@aa:8` (R280). -/
def execBxorAbs8 (bit : BitVec 3) (aa : BitVec 8) (s : State) : Outcome :=
  testBit .C (fun x => s.flag .C ^^ x) bit (.abs8 aa) s

/-- `BIXOR #xx:3,Rd` (R281). -/
def execBixorReg (bit : BitVec 3) (rd : Reg8) (s : State) : Outcome :=
  testBit .C (fun x => s.flag .C ^^ !x) bit (.reg rd) s

/-- `BIXOR #xx:3,@ERd` (R281). -/
def execBixorInd (bit : BitVec 3) (erd : RegNum) (s : State) : Outcome :=
  testBit .C (fun x => s.flag .C ^^ !x) bit (.ind erd) s

/-- `BIXOR #xx:3,@aa:8` (R281). -/
def execBixorAbs8 (bit : BitVec 3) (aa : BitVec 8) (s : State) : Outcome :=
  testBit .C (fun x => s.flag .C ^^ !x) bit (.abs8 aa) s

/-- `BLD #xx:3,Rd` (R282). -/
def execBldReg (bit : BitVec 3) (rd : Reg8) (s : State) : Outcome :=
  testBit .C (fun x => x) bit (.reg rd) s

/-- `BLD #xx:3,@ERd` (R282). -/
def execBldInd (bit : BitVec 3) (erd : RegNum) (s : State) : Outcome :=
  testBit .C (fun x => x) bit (.ind erd) s

/-- `BLD #xx:3,@aa:8` (R282). -/
def execBldAbs8 (bit : BitVec 3) (aa : BitVec 8) (s : State) : Outcome :=
  testBit .C (fun x => x) bit (.abs8 aa) s

/-- `BILD #xx:3,Rd` (R283). -/
def execBildReg (bit : BitVec 3) (rd : Reg8) (s : State) : Outcome :=
  testBit .C (fun x => !x) bit (.reg rd) s

/-- `BILD #xx:3,@ERd` (R283). -/
def execBildInd (bit : BitVec 3) (erd : RegNum) (s : State) : Outcome :=
  testBit .C (fun x => !x) bit (.ind erd) s

/-- `BILD #xx:3,@aa:8` (R283). -/
def execBildAbs8 (bit : BitVec 3) (aa : BitVec 8) (s : State) : Outcome :=
  testBit .C (fun x => !x) bit (.abs8 aa) s

/-- `BST #xx:3,Rd` (R284). -/
def execBstReg (bit : BitVec 3) (rd : Reg8) (s : State) : Outcome :=
  modifyBit (fun _ => s.flag .C) bit (.reg rd) s

/-- `BST #xx:3,@ERd` (R284). -/
def execBstInd (bit : BitVec 3) (erd : RegNum) (s : State) : Outcome :=
  modifyBit (fun _ => s.flag .C) bit (.ind erd) s

/-- `BST #xx:3,@aa:8` (R284). -/
def execBstAbs8 (bit : BitVec 3) (aa : BitVec 8) (s : State) : Outcome :=
  modifyBit (fun _ => s.flag .C) bit (.abs8 aa) s

/-- `BIST #xx:3,Rd` (R285). -/
def execBistReg (bit : BitVec 3) (rd : Reg8) (s : State) : Outcome :=
  modifyBit (fun _ => !s.flag .C) bit (.reg rd) s

/-- `BIST #xx:3,@ERd` (R285). -/
def execBistInd (bit : BitVec 3) (erd : RegNum) (s : State) : Outcome :=
  modifyBit (fun _ => !s.flag .C) bit (.ind erd) s

/-- `BIST #xx:3,@aa:8` (R285). -/
def execBistAbs8 (bit : BitVec 3) (aa : BitVec 8) (s : State) : Outcome :=
  modifyBit (fun _ => !s.flag .C) bit (.abs8 aa) s

end Sys2Proof.Machine
end

