-- ==== Sys2Proof/Machine/BlockTransfer.lean ====
section
/-! DEFINITION. Block transfer (47_block_transfer.md): EEPMOV.B and EEPMOV.W. -/

namespace Sys2Proof.Machine

/-- One byte: read at ER5, written at ER6, both registers up by 1 (R350). -/
def State.transferByte (s : State) (len : Nat) : Res State := do
  let (v, s1) ← s.readByte (ea24 (s.reg32 5))
  let s2 ← s1.storeByte (window len) (ea24 (s1.reg32 6)) v
  let s3 := s2.setReg32 5 (s2.reg32 5 + 1)
  return s3.setReg32 6 (s3.reg32 6 + 1)

/-- `k` bytes with the counter R4L (R350). -/
def State.transferB : Nat → Nat → State → Res State
  | 0, _, s => .ok s
  | k + 1, len, s => do
    let s1 ← s.transferByte len
    State.transferB k len (s1.setReg8 (.l 4) (s1.reg8 (.l 4) - 1))

/-- `k` bytes with the counter R4 (R351). -/
def State.transferW : Nat → Nat → State → Res State
  | 0, _, s => .ok s
  | k + 1, len, s => do
    let s1 ← s.transferByte len
    State.transferW k len (s1.setReg16 (.r 4) (s1.reg16 (.r 4) - 1))

/-- An NMI that arrives while a block of `count` bytes moves has become a request (R352, R383). Log 28. -/
def State.nmiArrived (s : State) (count : Nat) : State :=
  match s.nmiDuringTransfer with
  | none => s
  | some k => if k < count then { s with nmiRequest := true, nmiDuringTransfer := none } else s

/-- How many of `count` bytes EEPMOV.W moves: with an NMI it ends "at the end of the byte transfer in progress" (R352,
92 D13). -/
def State.bytesMoved (s : State) (count : Nat) : Nat :=
  match s.nmiDuringTransfer with
  | none => count
  | some k => if k < count then k + 1 else count

/-- EEPMOV.B: R4L bytes, no interrupt until it completes (R350, R352). -/
def State.eepmovB (s : State) (len : Nat) : Res State := do
  let count := (s.reg8 (.l 4)).toNat
  let s1 ← State.transferB count len s
  return (s1.nmiArrived count).advance len

/-- EEPMOV.W: R4 bytes, or fewer if an NMI arrives (R351, R352). -/
def State.eepmovW (s : State) (len : Nat) : Res State := do
  let count := (s.reg16 (.r 4)).toNat
  let s1 ← State.transferW (s.bytesMoved count) len s
  return (s1.nmiArrived count).advance len

/-- `EEPMOV.B` (R350). -/
def execEepmovB (s : State) : Outcome :=
  finish (s.eepmovB 4)

/-- `EEPMOV.W` (R351). -/
def execEepmovW (s : State) : Outcome :=
  finish (s.eepmovW 4)

end Sys2Proof.Machine
end

