-- ==== Sys2Proof/Machine/Branch.lean ====
section
/-! DEFINITION. Branches, calls and returns (45_branch.md). No flag changes. -/

namespace Sys2Proof.Machine

/-- The length of a Bcc (R301, R302). -/
def BranchDisp.len : BranchDisp → Nat
  | .d8 _ => 2
  | .d16 _ => 4

/-- The displacement "sign-extended to 24 bits" (R90). -/
def BranchDisp.offset : BranchDisp → Addr
  | .d8 p => p.signExtend 24
  | .d16 p => p.signExtend 24

/-- Bcc: the displacement is added to the address of the next instruction (R90, R301, R302). -/
def branch (taken : Bool) (d : BranchDisp) (s : State) : Outcome :=
  .next (if taken then s.setPc (s.nextPc (BranchDisp.len d) + BranchDisp.offset d) else s.advance (BranchDisp.len d))

/-- The address of a memory-indirect operand: "The upper bits of the 8-bit absolute address are assumed to be 0" (R89). -/
def tableAddr (aa : BitVec 8) : Addr := aa.zeroExtend 24

/-- `BRA`: taken always (R301, R302). -/
def execBra (d : BranchDisp) (s : State) : Outcome :=
  branch true d s

/-- `BRN`: taken never (R301, R302). -/
def execBrn (d : BranchDisp) (s : State) : Outcome :=
  branch false d s

/-- `BHI`: taken when C | Z = 0 (R301, R302). -/
def execBhi (d : BranchDisp) (s : State) : Outcome :=
  branch (!(s.flag .C || s.flag .Z)) d s

/-- `BLS`: taken when C | Z = 1 (R301, R302). -/
def execBls (d : BranchDisp) (s : State) : Outcome :=
  branch (s.flag .C || s.flag .Z) d s

/-- `BCC`: taken when C = 0 (R301, R302). -/
def execBcc (d : BranchDisp) (s : State) : Outcome :=
  branch (!s.flag .C) d s

/-- `BCS`: taken when C = 1 (R301, R302). -/
def execBcs (d : BranchDisp) (s : State) : Outcome :=
  branch (s.flag .C) d s

/-- `BNE`: taken when Z = 0 (R301, R302). -/
def execBne (d : BranchDisp) (s : State) : Outcome :=
  branch (!s.flag .Z) d s

/-- `BEQ`: taken when Z = 1 (R301, R302). -/
def execBeq (d : BranchDisp) (s : State) : Outcome :=
  branch (s.flag .Z) d s

/-- `BVC`: taken when V = 0 (R301, R302). -/
def execBvc (d : BranchDisp) (s : State) : Outcome :=
  branch (!s.flag .V) d s

/-- `BVS`: taken when V = 1 (R301, R302). -/
def execBvs (d : BranchDisp) (s : State) : Outcome :=
  branch (s.flag .V) d s

/-- `BPL`: taken when N = 0 (R301, R302). -/
def execBpl (d : BranchDisp) (s : State) : Outcome :=
  branch (!s.flag .N) d s

/-- `BMI`: taken when N = 1 (R301, R302). -/
def execBmi (d : BranchDisp) (s : State) : Outcome :=
  branch (s.flag .N) d s

/-- `BGE`: taken when N ^ V = 0 (R301, R302). -/
def execBge (d : BranchDisp) (s : State) : Outcome :=
  branch (s.flag .N == s.flag .V) d s

/-- `BLT`: taken when N ^ V = 1 (R301, R302). -/
def execBlt (d : BranchDisp) (s : State) : Outcome :=
  branch (s.flag .N != s.flag .V) d s

/-- `BGT`: taken when Z | (N ^ V) = 0 (R301, R302). -/
def execBgt (d : BranchDisp) (s : State) : Outcome :=
  branch (!(s.flag .Z || (s.flag .N != s.flag .V))) d s

/-- `BLE`: taken when Z | (N ^ V) = 1 (R301, R302). -/
def execBle (d : BranchDisp) (s : State) : Outcome :=
  branch (s.flag .Z || (s.flag .N != s.flag .V)) d s

/-- `JMP @ERn` (R303). -/
def execJmpInd (ern : RegNum) (s : State) : Outcome :=
  .next (s.setPc (ea24 (s.reg32 ern)))

/-- `JMP @aa:24` (R304). -/
def execJmpAbs24 (aa : BitVec 24) (s : State) : Outcome :=
  .next (s.setPc aa)

/-- `JMP @@aa:8` (R305). -/
def execJmpMemInd (aa : BitVec 8) (s : State) : Outcome :=
  finish do
    let (v, s1) ← s.readLong (tableAddr aa)
    return s1.setPc (ea24 v)

/-- `BSR d:8` (R306). -/
def execBsr8 (disp : BitVec 8) (s : State) : Outcome :=
  finish (s.call 2 (s.nextPc 2 + disp.signExtend 24))

/-- `BSR d:16` (R307). -/
def execBsr16 (disp : BitVec 16) (s : State) : Outcome :=
  finish (s.call 4 (s.nextPc 4 + disp.signExtend 24))

/-- `JSR @ERn`; the target is taken before the push (92 D12) (R308). -/
def execJsrInd (ern : RegNum) (s : State) : Outcome :=
  finish (s.call 2 (ea24 (s.reg32 ern)))

/-- `JSR @aa:24` (R309). -/
def execJsrAbs24 (aa : BitVec 24) (s : State) : Outcome :=
  finish (s.call 4 aa)

/-- `JSR @@aa:8`; the table is read before the push (R310). -/
def execJsrMemInd (aa : BitVec 8) (s : State) : Outcome :=
  finish do
    let (v, s1) ← s.readLong (tableAddr aa)
    s1.call 2 (ea24 v)

/-- `RTS` (R311). -/
def execRts (s : State) : Outcome :=
  finish do
    let (v, s1) ← s.popLong
    return s1.setPc (ea24 v)

end Sys2Proof.Machine
end

