-- ==== Sys2Proof/Machine/DataTransfer.lean ====
section
/-! DEFINITION. Data transfer (40_data_transfer.md): MOV, PUSH, POP, MOVFPE, MOVTPE. -/

namespace Sys2Proof.Machine

/-- `MOV.B Rs,Rd` (R151). -/
def execMovBRegReg (rs rd : Reg8) (s : State) : Outcome :=
  modifyB (aluMov (s.reg8 rs)) rd 2 s

/-- `MOV.W Rs,Rd` (R152). -/
def execMovWRegReg (rs rd : Reg16) (s : State) : Outcome :=
  modifyW (aluMov (s.reg16 rs)) rd 2 s

/-- `MOV.L ERs,ERd` (R153). -/
def execMovLRegReg (ers erd : RegNum) (s : State) : Outcome :=
  modifyL (aluMov (s.reg32 ers)) erd 2 s

/-- `MOV.B #xx:8,Rd` (R154). -/
def execMovBImm (imm : BitVec 8) (rd : Reg8) (s : State) : Outcome :=
  modifyB (aluMov imm) rd 2 s

/-- `MOV.W #xx:16,Rd` (R155). -/
def execMovWImm (imm : BitVec 16) (rd : Reg16) (s : State) : Outcome :=
  modifyW (aluMov imm) rd 4 s

/-- `MOV.L #xx:32,ERd` (R156). -/
def execMovLImm (imm : BitVec 32) (erd : RegNum) (s : State) : Outcome :=
  modifyL (aluMov imm) erd 6 s

/-- `MOV.B @ERs,Rd` (R157). -/
def execMovBLoadInd (ers : RegNum) (rd : Reg8) (s : State) : Outcome :=
  loadB (.ind ers) rd 2 s

/-- `MOV.B @(d:16,ERs),Rd` (R157). -/
def execMovBLoadDisp16 (disp : BitVec 16) (ers : RegNum) (rd : Reg8) (s : State) : Outcome :=
  loadB (.disp16 disp ers) rd 4 s

/-- `MOV.B @(d:24,ERs),Rd` (R157). -/
def execMovBLoadDisp24 (disp : BitVec 24) (ers : RegNum) (rd : Reg8) (s : State) : Outcome :=
  loadB (.disp24 disp ers) rd 8 s

/-- `MOV.B @ERs+,Rd` (R157). -/
def execMovBLoadPostInc (ers : RegNum) (rd : Reg8) (s : State) : Outcome :=
  loadB (.postInc ers) rd 2 s

/-- `MOV.B @aa:8,Rd` (R157). -/
def execMovBLoadAbs8 (aa : BitVec 8) (rd : Reg8) (s : State) : Outcome :=
  loadB (.abs8 aa) rd 2 s

/-- `MOV.B @aa:16,Rd` (R157). -/
def execMovBLoadAbs16 (aa : BitVec 16) (rd : Reg8) (s : State) : Outcome :=
  loadB (.abs16 aa) rd 4 s

/-- `MOV.B @aa:24,Rd` (R157). -/
def execMovBLoadAbs24 (aa : BitVec 24) (rd : Reg8) (s : State) : Outcome :=
  loadB (.abs24 aa) rd 6 s

/-- `MOV.W @ERs,Rd` (R158). -/
def execMovWLoadInd (ers : RegNum) (rd : Reg16) (s : State) : Outcome :=
  loadW (.ind ers) rd 2 s

/-- `MOV.W @(d:16,ERs),Rd` (R158). -/
def execMovWLoadDisp16 (disp : BitVec 16) (ers : RegNum) (rd : Reg16) (s : State) : Outcome :=
  loadW (.disp16 disp ers) rd 4 s

/-- `MOV.W @(d:24,ERs),Rd` (R158). -/
def execMovWLoadDisp24 (disp : BitVec 24) (ers : RegNum) (rd : Reg16) (s : State) : Outcome :=
  loadW (.disp24 disp ers) rd 8 s

/-- `MOV.W @ERs+,Rd` (R158). -/
def execMovWLoadPostInc (ers : RegNum) (rd : Reg16) (s : State) : Outcome :=
  loadW (.postInc ers) rd 2 s

/-- `MOV.W @aa:16,Rd` (R158). -/
def execMovWLoadAbs16 (aa : BitVec 16) (rd : Reg16) (s : State) : Outcome :=
  loadW (.abs16 aa) rd 4 s

/-- `MOV.W @aa:24,Rd` (R158). -/
def execMovWLoadAbs24 (aa : BitVec 24) (rd : Reg16) (s : State) : Outcome :=
  loadW (.abs24 aa) rd 6 s

/-- `MOV.L @ERs,ERd` (R159). -/
def execMovLLoadInd (ers erd : RegNum) (s : State) : Outcome :=
  loadL (.ind ers) erd 4 s

/-- `MOV.L @(d:16,ERs),ERd` (R159). -/
def execMovLLoadDisp16 (disp : BitVec 16) (ers erd : RegNum) (s : State) : Outcome :=
  loadL (.disp16 disp ers) erd 6 s

/-- `MOV.L @(d:24,ERs),ERd` (R159). -/
def execMovLLoadDisp24 (disp : BitVec 24) (ers erd : RegNum) (s : State) : Outcome :=
  loadL (.disp24 disp ers) erd 10 s

/-- `MOV.L @ERs+,ERd` (R159). -/
def execMovLLoadPostInc (ers erd : RegNum) (s : State) : Outcome :=
  loadL (.postInc ers) erd 4 s

/-- `MOV.L @aa:16,ERd` (R159). -/
def execMovLLoadAbs16 (aa : BitVec 16) (erd : RegNum) (s : State) : Outcome :=
  loadL (.abs16 aa) erd 6 s

/-- `MOV.L @aa:24,ERd` (R159). -/
def execMovLLoadAbs24 (aa : BitVec 24) (erd : RegNum) (s : State) : Outcome :=
  loadL (.abs24 aa) erd 8 s

/-- `MOV.B Rs,@ERd` (R160). -/
def execMovBStoreInd (rs : Reg8) (erd : RegNum) (s : State) : Outcome :=
  storeB rs (.ind erd) 2 s

/-- `MOV.B Rs,@(d:16,ERd)` (R160). -/
def execMovBStoreDisp16 (rs : Reg8) (disp : BitVec 16) (erd : RegNum) (s : State) : Outcome :=
  storeB rs (.disp16 disp erd) 4 s

/-- `MOV.B Rs,@(d:24,ERd)` (R160). -/
def execMovBStoreDisp24 (rs : Reg8) (disp : BitVec 24) (erd : RegNum) (s : State) : Outcome :=
  storeB rs (.disp24 disp erd) 8 s

/-- `MOV.B Rs,@-ERd` (R160). -/
def execMovBStorePreDec (rs : Reg8) (erd : RegNum) (s : State) : Outcome :=
  storeB rs (.preDec erd) 2 s

/-- `MOV.B Rs,@aa:8` (R160). -/
def execMovBStoreAbs8 (rs : Reg8) (aa : BitVec 8) (s : State) : Outcome :=
  storeB rs (.abs8 aa) 2 s

/-- `MOV.B Rs,@aa:16` (R160). -/
def execMovBStoreAbs16 (rs : Reg8) (aa : BitVec 16) (s : State) : Outcome :=
  storeB rs (.abs16 aa) 4 s

/-- `MOV.B Rs,@aa:24` (R160). -/
def execMovBStoreAbs24 (rs : Reg8) (aa : BitVec 24) (s : State) : Outcome :=
  storeB rs (.abs24 aa) 6 s

/-- `MOV.W Rs,@ERd` (R161). -/
def execMovWStoreInd (rs : Reg16) (erd : RegNum) (s : State) : Outcome :=
  storeW rs (.ind erd) 2 s

/-- `MOV.W Rs,@(d:16,ERd)` (R161). -/
def execMovWStoreDisp16 (rs : Reg16) (disp : BitVec 16) (erd : RegNum) (s : State) : Outcome :=
  storeW rs (.disp16 disp erd) 4 s

/-- `MOV.W Rs,@(d:24,ERd)` (R161). -/
def execMovWStoreDisp24 (rs : Reg16) (disp : BitVec 24) (erd : RegNum) (s : State) : Outcome :=
  storeW rs (.disp24 disp erd) 8 s

/-- `MOV.W Rs,@-ERd` (R161). -/
def execMovWStorePreDec (rs : Reg16) (erd : RegNum) (s : State) : Outcome :=
  storeW rs (.preDec erd) 2 s

/-- `MOV.W Rs,@aa:16` (R161). -/
def execMovWStoreAbs16 (rs : Reg16) (aa : BitVec 16) (s : State) : Outcome :=
  storeW rs (.abs16 aa) 4 s

/-- `MOV.W Rs,@aa:24` (R161). -/
def execMovWStoreAbs24 (rs : Reg16) (aa : BitVec 24) (s : State) : Outcome :=
  storeW rs (.abs24 aa) 6 s

/-- `MOV.L ERs,@ERd` (R162). -/
def execMovLStoreInd (ers erd : RegNum) (s : State) : Outcome :=
  storeL ers (.ind erd) 4 s

/-- `MOV.L ERs,@(d:16,ERd)` (R162). -/
def execMovLStoreDisp16 (ers : RegNum) (disp : BitVec 16) (erd : RegNum) (s : State) : Outcome :=
  storeL ers (.disp16 disp erd) 6 s

/-- `MOV.L ERs,@(d:24,ERd)` (R162). -/
def execMovLStoreDisp24 (ers : RegNum) (disp : BitVec 24) (erd : RegNum) (s : State) : Outcome :=
  storeL ers (.disp24 disp erd) 10 s

/-- `MOV.L ERs,@-ERd` (R162). -/
def execMovLStorePreDec (ers erd : RegNum) (s : State) : Outcome :=
  storeL ers (.preDec erd) 4 s

/-- `MOV.L ERs,@aa:16` (R162). -/
def execMovLStoreAbs16 (ers : RegNum) (aa : BitVec 16) (s : State) : Outcome :=
  storeL ers (.abs16 aa) 6 s

/-- `MOV.L ERs,@aa:24` (R162). -/
def execMovLStoreAbs24 (ers : RegNum) (aa : BitVec 24) (s : State) : Outcome :=
  storeL ers (.abs24 aa) 8 s

/-- `MOVFPE @aa:16,Rd`: "Cannot be used in the H8/3022 Series." (R164). -/
def execMovfpe (_aa : BitVec 16) (_rd : Reg8) (_s : State) : Outcome :=
  .refused .cannotBeUsed

/-- `MOVTPE Rs,@aa:16`: "Cannot be used in the H8/3022 Series." (R165). -/
def execMovtpe (_rs : Reg8) (_aa : BitVec 16) (_s : State) : Outcome :=
  .refused .cannotBeUsed

/-- `POP.W Rn` (R166). -/
def execPopW (rd : Reg16) (s : State) : Outcome :=
  loadW (.postInc sp) rd 2 s

/-- `POP.L ERn` (R167). -/
def execPopL (erd : RegNum) (s : State) : Outcome :=
  loadL (.postInc sp) erd 4 s

/-- `PUSH.W Rn` (R168). -/
def execPushW (rs : Reg16) (s : State) : Outcome :=
  storeW rs (.preDec sp) 2 s

/-- `PUSH.L ERn` (R169). -/
def execPushL (ers : RegNum) (s : State) : Outcome :=
  storeL ers (.preDec sp) 4 s

end Sys2Proof.Machine
end

