-- ==== Sys2Proof/Machine/Logic.lean ====
section
/-! DEFINITION. Logic (42_logic.md): AND, OR, XOR, NOT. -/

namespace Sys2Proof.Machine

/-- `AND.B #xx:8,Rd` (R231). -/
def execAndBImm (imm : BitVec 8) (rd : Reg8) (s : State) : Outcome :=
  modifyB (aluAnd imm) rd 2 s

/-- `AND.B Rs,Rd` (R231). -/
def execAndBReg (rs rd : Reg8) (s : State) : Outcome :=
  modifyB (aluAnd (s.reg8 rs)) rd 2 s

/-- `AND.W #xx:16,Rd` (R231). -/
def execAndWImm (imm : BitVec 16) (rd : Reg16) (s : State) : Outcome :=
  modifyW (aluAnd imm) rd 4 s

/-- `AND.W Rs,Rd` (R231). -/
def execAndWReg (rs rd : Reg16) (s : State) : Outcome :=
  modifyW (aluAnd (s.reg16 rs)) rd 2 s

/-- `AND.L #xx:32,ERd` (R231). -/
def execAndLImm (imm : BitVec 32) (erd : RegNum) (s : State) : Outcome :=
  modifyL (aluAnd imm) erd 6 s

/-- `AND.L ERs,ERd` (R231). -/
def execAndLReg (ers erd : RegNum) (s : State) : Outcome :=
  modifyL (aluAnd (s.reg32 ers)) erd 4 s

/-- `OR.B #xx:8,Rd` (R232). -/
def execOrBImm (imm : BitVec 8) (rd : Reg8) (s : State) : Outcome :=
  modifyB (aluOr imm) rd 2 s

/-- `OR.B Rs,Rd` (R232). -/
def execOrBReg (rs rd : Reg8) (s : State) : Outcome :=
  modifyB (aluOr (s.reg8 rs)) rd 2 s

/-- `OR.W #xx:16,Rd` (R232). -/
def execOrWImm (imm : BitVec 16) (rd : Reg16) (s : State) : Outcome :=
  modifyW (aluOr imm) rd 4 s

/-- `OR.W Rs,Rd` (R232). -/
def execOrWReg (rs rd : Reg16) (s : State) : Outcome :=
  modifyW (aluOr (s.reg16 rs)) rd 2 s

/-- `OR.L #xx:32,ERd` (R232). -/
def execOrLImm (imm : BitVec 32) (erd : RegNum) (s : State) : Outcome :=
  modifyL (aluOr imm) erd 6 s

/-- `OR.L ERs,ERd` (R232). -/
def execOrLReg (ers erd : RegNum) (s : State) : Outcome :=
  modifyL (aluOr (s.reg32 ers)) erd 4 s

/-- `XOR.B #xx:8,Rd` (R233). -/
def execXorBImm (imm : BitVec 8) (rd : Reg8) (s : State) : Outcome :=
  modifyB (aluXor imm) rd 2 s

/-- `XOR.B Rs,Rd` (R233). -/
def execXorBReg (rs rd : Reg8) (s : State) : Outcome :=
  modifyB (aluXor (s.reg8 rs)) rd 2 s

/-- `XOR.W #xx:16,Rd` (R233). -/
def execXorWImm (imm : BitVec 16) (rd : Reg16) (s : State) : Outcome :=
  modifyW (aluXor imm) rd 4 s

/-- `XOR.W Rs,Rd` (R233). -/
def execXorWReg (rs rd : Reg16) (s : State) : Outcome :=
  modifyW (aluXor (s.reg16 rs)) rd 2 s

/-- `XOR.L #xx:32,ERd` (R233). -/
def execXorLImm (imm : BitVec 32) (erd : RegNum) (s : State) : Outcome :=
  modifyL (aluXor imm) erd 6 s

/-- `XOR.L ERs,ERd` (R233). -/
def execXorLReg (ers erd : RegNum) (s : State) : Outcome :=
  modifyL (aluXor (s.reg32 ers)) erd 4 s

/-- `NOT.B Rd` (R234). -/
def execNotB (rd : Reg8) (s : State) : Outcome :=
  modifyB aluNot rd 2 s

/-- `NOT.W Rd` (R234). -/
def execNotW (rd : Reg16) (s : State) : Outcome :=
  modifyW aluNot rd 2 s

/-- `NOT.L ERd` (R234). -/
def execNotL (erd : RegNum) (s : State) : Outcome :=
  modifyL aluNot erd 2 s

end Sys2Proof.Machine
end

