-- ==== Sys2Proof/Machine/Shift.lean ====
section
/-! DEFINITION. Shifts and rotates by one bit (43_shift.md). -/

namespace Sys2Proof.Machine

/-- `SHAL.B Rd` (R251). -/
def execShalB (rd : Reg8) (s : State) : Outcome :=
  modifyB aluShal rd 2 s

/-- `SHAL.W Rd` (R251). -/
def execShalW (rd : Reg16) (s : State) : Outcome :=
  modifyW aluShal rd 2 s

/-- `SHAL.L ERd` (R251). -/
def execShalL (erd : RegNum) (s : State) : Outcome :=
  modifyL aluShal erd 2 s

/-- `SHAR.B Rd` (R252). -/
def execSharB (rd : Reg8) (s : State) : Outcome :=
  modifyB aluShar rd 2 s

/-- `SHAR.W Rd` (R252). -/
def execSharW (rd : Reg16) (s : State) : Outcome :=
  modifyW aluShar rd 2 s

/-- `SHAR.L ERd` (R252). -/
def execSharL (erd : RegNum) (s : State) : Outcome :=
  modifyL aluShar erd 2 s

/-- `SHLL.B Rd` (R253). -/
def execShllB (rd : Reg8) (s : State) : Outcome :=
  modifyB aluShll rd 2 s

/-- `SHLL.W Rd` (R253). -/
def execShllW (rd : Reg16) (s : State) : Outcome :=
  modifyW aluShll rd 2 s

/-- `SHLL.L ERd` (R253). -/
def execShllL (erd : RegNum) (s : State) : Outcome :=
  modifyL aluShll erd 2 s

/-- `SHLR.B Rd` (R254). -/
def execShlrB (rd : Reg8) (s : State) : Outcome :=
  modifyB aluShlr rd 2 s

/-- `SHLR.W Rd` (R254). -/
def execShlrW (rd : Reg16) (s : State) : Outcome :=
  modifyW aluShlr rd 2 s

/-- `SHLR.L ERd` (R254). -/
def execShlrL (erd : RegNum) (s : State) : Outcome :=
  modifyL aluShlr erd 2 s

/-- `ROTL.B Rd` (R255). -/
def execRotlB (rd : Reg8) (s : State) : Outcome :=
  modifyB aluRotl rd 2 s

/-- `ROTL.W Rd` (R255). -/
def execRotlW (rd : Reg16) (s : State) : Outcome :=
  modifyW aluRotl rd 2 s

/-- `ROTL.L ERd` (R255). -/
def execRotlL (erd : RegNum) (s : State) : Outcome :=
  modifyL aluRotl erd 2 s

/-- `ROTR.B Rd` (R256). -/
def execRotrB (rd : Reg8) (s : State) : Outcome :=
  modifyB aluRotr rd 2 s

/-- `ROTR.W Rd` (R256). -/
def execRotrW (rd : Reg16) (s : State) : Outcome :=
  modifyW aluRotr rd 2 s

/-- `ROTR.L ERd` (R256). -/
def execRotrL (erd : RegNum) (s : State) : Outcome :=
  modifyL aluRotr erd 2 s

/-- `ROTXL.B Rd` (R257). -/
def execRotxlB (rd : Reg8) (s : State) : Outcome :=
  modifyB aluRotxl rd 2 s

/-- `ROTXL.W Rd` (R257). -/
def execRotxlW (rd : Reg16) (s : State) : Outcome :=
  modifyW aluRotxl rd 2 s

/-- `ROTXL.L ERd` (R257). -/
def execRotxlL (erd : RegNum) (s : State) : Outcome :=
  modifyL aluRotxl erd 2 s

/-- `ROTXR.B Rd` (R258). -/
def execRotxrB (rd : Reg8) (s : State) : Outcome :=
  modifyB aluRotxr rd 2 s

/-- `ROTXR.W Rd` (R258). -/
def execRotxrW (rd : Reg16) (s : State) : Outcome :=
  modifyW aluRotxr rd 2 s

/-- `ROTXR.L ERd` (R258). -/
def execRotxrL (erd : RegNum) (s : State) : Outcome :=
  modifyL aluRotxr erd 2 s

end Sys2Proof.Machine
end

