-- ==== Sys2Proof/Machine/SystemControl.lean ====
section
/-! DEFINITION. System control (46_system_control.md). Nothing is privileged (R395). -/

namespace Sys2Proof.Machine

/-- SYSCR bit 7, SSBY (R44). -/
def State.standbySelected (s : State) : Bool := s.syscr.getLsbD 7

/-- What SLEEP enters: sleep mode, or with SSBY software standby mode, in which "The on-chip supporting modules are
reset" (R322, R403, R404, R407). Log 27. -/
def State.powerDown (s : State) : State :=
  if s.standbySelected then (s.resetModules false).setPstate .softwareStandby else s.setPstate .sleep

/-- `TRAPA #x:2` (R320). -/
def execTrapa (vec : BitVec 2) (s : State) : Outcome :=
  finish (s.takeException (window 2) (8 + vec.toNat) (s.nextPc 2))

/-- `RTE` (R321). -/
def execRte (s : State) : Outcome :=
  finish s.returnFromException

/-- `SLEEP`: a transition to the power-down state (R322). -/
def execSleep (s : State) : Outcome :=
  .next ((s.advance 2).powerDown)

/-- `LDC #xx:8,CCR` (R323). -/
def execLdcImm (imm : BitVec 8) (s : State) : Outcome :=
  writeCcr imm 2 s

/-- `LDC Rs,CCR` (R324). -/
def execLdcReg (rs : Reg8) (s : State) : Outcome :=
  writeCcr (s.reg8 rs) 2 s

/-- `LDC @ERs,CCR` (R325). -/
def execLdcInd (ers : RegNum) (s : State) : Outcome :=
  loadCcr (.ind ers) 4 s

/-- `LDC @(d:16,ERs),CCR` (R325). -/
def execLdcDisp16 (disp : BitVec 16) (ers : RegNum) (s : State) : Outcome :=
  loadCcr (.disp16 disp ers) 6 s

/-- `LDC @(d:24,ERs),CCR` (R325). -/
def execLdcDisp24 (disp : BitVec 24) (ers : RegNum) (s : State) : Outcome :=
  loadCcr (.disp24 disp ers) 10 s

/-- `LDC @ERs+,CCR` (R325). -/
def execLdcPostInc (ers : RegNum) (s : State) : Outcome :=
  loadCcr (.postInc ers) 4 s

/-- `LDC @aa:16,CCR` (R325). -/
def execLdcAbs16 (aa : BitVec 16) (s : State) : Outcome :=
  loadCcr (.abs16 aa) 6 s

/-- `LDC @aa:24,CCR` (R325). -/
def execLdcAbs24 (aa : BitVec 24) (s : State) : Outcome :=
  loadCcr (.abs24 aa) 8 s

/-- `STC CCR,Rd` (R326). -/
def execStcReg (rd : Reg8) (s : State) : Outcome :=
  .next ((s.setReg8 rd s.ccr).advance 2)

/-- `STC CCR,@ERd` (R327). -/
def execStcInd (erd : RegNum) (s : State) : Outcome :=
  storeCcr (.ind erd) 4 s

/-- `STC CCR,@(d:16,ERd)` (R327). -/
def execStcDisp16 (disp : BitVec 16) (erd : RegNum) (s : State) : Outcome :=
  storeCcr (.disp16 disp erd) 6 s

/-- `STC CCR,@(d:24,ERd)` (R327). -/
def execStcDisp24 (disp : BitVec 24) (erd : RegNum) (s : State) : Outcome :=
  storeCcr (.disp24 disp erd) 10 s

/-- `STC CCR,@-ERd` (R327). -/
def execStcPreDec (erd : RegNum) (s : State) : Outcome :=
  storeCcr (.preDec erd) 4 s

/-- `STC CCR,@aa:16` (R327). -/
def execStcAbs16 (aa : BitVec 16) (s : State) : Outcome :=
  storeCcr (.abs16 aa) 6 s

/-- `STC CCR,@aa:24` (R327). -/
def execStcAbs24 (aa : BitVec 24) (s : State) : Outcome :=
  storeCcr (.abs24 aa) 8 s

/-- `ANDC #xx:8,CCR` (R328). -/
def execAndc (imm : BitVec 8) (s : State) : Outcome :=
  writeCcr (s.ccr &&& imm) 2 s

/-- `ORC #xx:8,CCR` (R329). -/
def execOrc (imm : BitVec 8) (s : State) : Outcome :=
  writeCcr (s.ccr ||| imm) 2 s

/-- `XORC #xx:8,CCR` (R330). -/
def execXorc (imm : BitVec 8) (s : State) : Outcome :=
  writeCcr (s.ccr ^^^ imm) 2 s

/-- `NOP` (R331). -/
def execNop (s : State) : Outcome :=
  .next (s.advance 2)

end Sys2Proof.Machine
end

