-- ==== Sys2Proof/Machine/Dispatch.lean ====
section
/-! DEFINITION. The meaning of each instruction, arm by arm. -/

namespace Sys2Proof.Machine

/-- What an instruction does to the machine: one arm for each constructor of `Instr`. -/
def exec (i : Instr) (s : State) : Host.Outcome State Fault Refusal :=
  match i with
  | .movBRegReg rs rd => Sys2Proof.Machine.execMovBRegReg rs rd s
  | .movWRegReg rs rd => Sys2Proof.Machine.execMovWRegReg rs rd s
  | .movLRegReg ers erd => Sys2Proof.Machine.execMovLRegReg ers erd s
  | .movBImm imm rd => Sys2Proof.Machine.execMovBImm imm rd s
  | .movWImm imm rd => Sys2Proof.Machine.execMovWImm imm rd s
  | .movLImm imm erd => Sys2Proof.Machine.execMovLImm imm erd s
  | .movBLoadInd ers rd => Sys2Proof.Machine.execMovBLoadInd ers rd s
  | .movBLoadDisp16 disp ers rd => Sys2Proof.Machine.execMovBLoadDisp16 disp ers rd s
  | .movBLoadDisp24 disp ers rd => Sys2Proof.Machine.execMovBLoadDisp24 disp ers rd s
  | .movBLoadPostInc ers rd => Sys2Proof.Machine.execMovBLoadPostInc ers rd s
  | .movBLoadAbs8 aa rd => Sys2Proof.Machine.execMovBLoadAbs8 aa rd s
  | .movBLoadAbs16 aa rd => Sys2Proof.Machine.execMovBLoadAbs16 aa rd s
  | .movBLoadAbs24 aa rd => Sys2Proof.Machine.execMovBLoadAbs24 aa rd s
  | .movWLoadInd ers rd => Sys2Proof.Machine.execMovWLoadInd ers rd s
  | .movWLoadDisp16 disp ers rd => Sys2Proof.Machine.execMovWLoadDisp16 disp ers rd s
  | .movWLoadDisp24 disp ers rd => Sys2Proof.Machine.execMovWLoadDisp24 disp ers rd s
  | .movWLoadPostInc ers rd => Sys2Proof.Machine.execMovWLoadPostInc ers rd s
  | .movWLoadAbs16 aa rd => Sys2Proof.Machine.execMovWLoadAbs16 aa rd s
  | .movWLoadAbs24 aa rd => Sys2Proof.Machine.execMovWLoadAbs24 aa rd s
  | .movLLoadInd ers erd => Sys2Proof.Machine.execMovLLoadInd ers erd s
  | .movLLoadDisp16 disp ers erd => Sys2Proof.Machine.execMovLLoadDisp16 disp ers erd s
  | .movLLoadDisp24 disp ers erd => Sys2Proof.Machine.execMovLLoadDisp24 disp ers erd s
  | .movLLoadPostInc ers erd => Sys2Proof.Machine.execMovLLoadPostInc ers erd s
  | .movLLoadAbs16 aa erd => Sys2Proof.Machine.execMovLLoadAbs16 aa erd s
  | .movLLoadAbs24 aa erd => Sys2Proof.Machine.execMovLLoadAbs24 aa erd s
  | .movBStoreInd rs erd => Sys2Proof.Machine.execMovBStoreInd rs erd s
  | .movBStoreDisp16 rs disp erd => Sys2Proof.Machine.execMovBStoreDisp16 rs disp erd s
  | .movBStoreDisp24 rs disp erd => Sys2Proof.Machine.execMovBStoreDisp24 rs disp erd s
  | .movBStorePreDec rs erd => Sys2Proof.Machine.execMovBStorePreDec rs erd s
  | .movBStoreAbs8 rs aa => Sys2Proof.Machine.execMovBStoreAbs8 rs aa s
  | .movBStoreAbs16 rs aa => Sys2Proof.Machine.execMovBStoreAbs16 rs aa s
  | .movBStoreAbs24 rs aa => Sys2Proof.Machine.execMovBStoreAbs24 rs aa s
  | .movWStoreInd rs erd => Sys2Proof.Machine.execMovWStoreInd rs erd s
  | .movWStoreDisp16 rs disp erd => Sys2Proof.Machine.execMovWStoreDisp16 rs disp erd s
  | .movWStoreDisp24 rs disp erd => Sys2Proof.Machine.execMovWStoreDisp24 rs disp erd s
  | .movWStorePreDec rs erd => Sys2Proof.Machine.execMovWStorePreDec rs erd s
  | .movWStoreAbs16 rs aa => Sys2Proof.Machine.execMovWStoreAbs16 rs aa s
  | .movWStoreAbs24 rs aa => Sys2Proof.Machine.execMovWStoreAbs24 rs aa s
  | .movLStoreInd ers erd => Sys2Proof.Machine.execMovLStoreInd ers erd s
  | .movLStoreDisp16 ers disp erd => Sys2Proof.Machine.execMovLStoreDisp16 ers disp erd s
  | .movLStoreDisp24 ers disp erd => Sys2Proof.Machine.execMovLStoreDisp24 ers disp erd s
  | .movLStorePreDec ers erd => Sys2Proof.Machine.execMovLStorePreDec ers erd s
  | .movLStoreAbs16 ers aa => Sys2Proof.Machine.execMovLStoreAbs16 ers aa s
  | .movLStoreAbs24 ers aa => Sys2Proof.Machine.execMovLStoreAbs24 ers aa s
  | .movfpe aa rd => Sys2Proof.Machine.execMovfpe aa rd s
  | .movtpe rs aa => Sys2Proof.Machine.execMovtpe rs aa s
  | .popW rd => Sys2Proof.Machine.execPopW rd s
  | .popL erd => Sys2Proof.Machine.execPopL erd s
  | .pushW rs => Sys2Proof.Machine.execPushW rs s
  | .pushL ers => Sys2Proof.Machine.execPushL ers s
  | .addBImm imm rd => Sys2Proof.Machine.execAddBImm imm rd s
  | .addBReg rs rd => Sys2Proof.Machine.execAddBReg rs rd s
  | .addWImm imm rd => Sys2Proof.Machine.execAddWImm imm rd s
  | .addWReg rs rd => Sys2Proof.Machine.execAddWReg rs rd s
  | .addLImm imm erd => Sys2Proof.Machine.execAddLImm imm erd s
  | .addLReg ers erd => Sys2Proof.Machine.execAddLReg ers erd s
  | .subBReg rs rd => Sys2Proof.Machine.execSubBReg rs rd s
  | .subWImm imm rd => Sys2Proof.Machine.execSubWImm imm rd s
  | .subWReg rs rd => Sys2Proof.Machine.execSubWReg rs rd s
  | .subLImm imm erd => Sys2Proof.Machine.execSubLImm imm erd s
  | .subLReg ers erd => Sys2Proof.Machine.execSubLReg ers erd s
  | .cmpBImm imm rd => Sys2Proof.Machine.execCmpBImm imm rd s
  | .cmpBReg rs rd => Sys2Proof.Machine.execCmpBReg rs rd s
  | .cmpWImm imm rd => Sys2Proof.Machine.execCmpWImm imm rd s
  | .cmpWReg rs rd => Sys2Proof.Machine.execCmpWReg rs rd s
  | .cmpLImm imm erd => Sys2Proof.Machine.execCmpLImm imm erd s
  | .cmpLReg ers erd => Sys2Proof.Machine.execCmpLReg ers erd s
  | .negB rd => Sys2Proof.Machine.execNegB rd s
  | .negW rd => Sys2Proof.Machine.execNegW rd s
  | .negL erd => Sys2Proof.Machine.execNegL erd s
  | .addxImm imm rd => Sys2Proof.Machine.execAddxImm imm rd s
  | .addxReg rs rd => Sys2Proof.Machine.execAddxReg rs rd s
  | .subxImm imm rd => Sys2Proof.Machine.execSubxImm imm rd s
  | .subxReg rs rd => Sys2Proof.Machine.execSubxReg rs rd s
  | .incB rd => Sys2Proof.Machine.execIncB rd s
  | .incW k rd => Sys2Proof.Machine.execIncW k rd s
  | .incL k erd => Sys2Proof.Machine.execIncL k erd s
  | .decB rd => Sys2Proof.Machine.execDecB rd s
  | .decW k rd => Sys2Proof.Machine.execDecW k rd s
  | .decL k erd => Sys2Proof.Machine.execDecL k erd s
  | .adds k erd => Sys2Proof.Machine.execAdds k erd s
  | .subs k erd => Sys2Proof.Machine.execSubs k erd s
  | .mulxuB rs rd => Sys2Proof.Machine.execMulxuB rs rd s
  | .mulxuW rs erd => Sys2Proof.Machine.execMulxuW rs erd s
  | .mulxsB rs rd => Sys2Proof.Machine.execMulxsB rs rd s
  | .mulxsW rs erd => Sys2Proof.Machine.execMulxsW rs erd s
  | .daa rd => Sys2Proof.Machine.execDaa rd s
  | .das rd => Sys2Proof.Machine.execDas rd s
  | .divxuB rs rd => Sys2Proof.Machine.execDivxuB rs rd s
  | .divxuW rs erd => Sys2Proof.Machine.execDivxuW rs erd s
  | .divxsB rs rd => Sys2Proof.Machine.execDivxsB rs rd s
  | .divxsW rs erd => Sys2Proof.Machine.execDivxsW rs erd s
  | .extsW rd => Sys2Proof.Machine.execExtsW rd s
  | .extsL erd => Sys2Proof.Machine.execExtsL erd s
  | .extuW rd => Sys2Proof.Machine.execExtuW rd s
  | .extuL erd => Sys2Proof.Machine.execExtuL erd s
  | .andBImm imm rd => Sys2Proof.Machine.execAndBImm imm rd s
  | .andBReg rs rd => Sys2Proof.Machine.execAndBReg rs rd s
  | .andWImm imm rd => Sys2Proof.Machine.execAndWImm imm rd s
  | .andWReg rs rd => Sys2Proof.Machine.execAndWReg rs rd s
  | .andLImm imm erd => Sys2Proof.Machine.execAndLImm imm erd s
  | .andLReg ers erd => Sys2Proof.Machine.execAndLReg ers erd s
  | .orBImm imm rd => Sys2Proof.Machine.execOrBImm imm rd s
  | .orBReg rs rd => Sys2Proof.Machine.execOrBReg rs rd s
  | .orWImm imm rd => Sys2Proof.Machine.execOrWImm imm rd s
  | .orWReg rs rd => Sys2Proof.Machine.execOrWReg rs rd s
  | .orLImm imm erd => Sys2Proof.Machine.execOrLImm imm erd s
  | .orLReg ers erd => Sys2Proof.Machine.execOrLReg ers erd s
  | .xorBImm imm rd => Sys2Proof.Machine.execXorBImm imm rd s
  | .xorBReg rs rd => Sys2Proof.Machine.execXorBReg rs rd s
  | .xorWImm imm rd => Sys2Proof.Machine.execXorWImm imm rd s
  | .xorWReg rs rd => Sys2Proof.Machine.execXorWReg rs rd s
  | .xorLImm imm erd => Sys2Proof.Machine.execXorLImm imm erd s
  | .xorLReg ers erd => Sys2Proof.Machine.execXorLReg ers erd s
  | .notB rd => Sys2Proof.Machine.execNotB rd s
  | .notW rd => Sys2Proof.Machine.execNotW rd s
  | .notL erd => Sys2Proof.Machine.execNotL erd s
  | .shalB rd => Sys2Proof.Machine.execShalB rd s
  | .shalW rd => Sys2Proof.Machine.execShalW rd s
  | .shalL erd => Sys2Proof.Machine.execShalL erd s
  | .sharB rd => Sys2Proof.Machine.execSharB rd s
  | .sharW rd => Sys2Proof.Machine.execSharW rd s
  | .sharL erd => Sys2Proof.Machine.execSharL erd s
  | .shllB rd => Sys2Proof.Machine.execShllB rd s
  | .shllW rd => Sys2Proof.Machine.execShllW rd s
  | .shllL erd => Sys2Proof.Machine.execShllL erd s
  | .shlrB rd => Sys2Proof.Machine.execShlrB rd s
  | .shlrW rd => Sys2Proof.Machine.execShlrW rd s
  | .shlrL erd => Sys2Proof.Machine.execShlrL erd s
  | .rotlB rd => Sys2Proof.Machine.execRotlB rd s
  | .rotlW rd => Sys2Proof.Machine.execRotlW rd s
  | .rotlL erd => Sys2Proof.Machine.execRotlL erd s
  | .rotrB rd => Sys2Proof.Machine.execRotrB rd s
  | .rotrW rd => Sys2Proof.Machine.execRotrW rd s
  | .rotrL erd => Sys2Proof.Machine.execRotrL erd s
  | .rotxlB rd => Sys2Proof.Machine.execRotxlB rd s
  | .rotxlW rd => Sys2Proof.Machine.execRotxlW rd s
  | .rotxlL erd => Sys2Proof.Machine.execRotxlL erd s
  | .rotxrB rd => Sys2Proof.Machine.execRotxrB rd s
  | .rotxrW rd => Sys2Proof.Machine.execRotxrW rd s
  | .rotxrL erd => Sys2Proof.Machine.execRotxrL erd s
  | .bsetImmReg bit rd => Sys2Proof.Machine.execBsetImmReg bit rd s
  | .bsetImmInd bit erd => Sys2Proof.Machine.execBsetImmInd bit erd s
  | .bsetImmAbs8 bit aa => Sys2Proof.Machine.execBsetImmAbs8 bit aa s
  | .bsetRegReg rn rd => Sys2Proof.Machine.execBsetRegReg rn rd s
  | .bsetRegInd rn erd => Sys2Proof.Machine.execBsetRegInd rn erd s
  | .bsetRegAbs8 rn aa => Sys2Proof.Machine.execBsetRegAbs8 rn aa s
  | .bclrImmReg bit rd => Sys2Proof.Machine.execBclrImmReg bit rd s
  | .bclrImmInd bit erd => Sys2Proof.Machine.execBclrImmInd bit erd s
  | .bclrImmAbs8 bit aa => Sys2Proof.Machine.execBclrImmAbs8 bit aa s
  | .bclrRegReg rn rd => Sys2Proof.Machine.execBclrRegReg rn rd s
  | .bclrRegInd rn erd => Sys2Proof.Machine.execBclrRegInd rn erd s
  | .bclrRegAbs8 rn aa => Sys2Proof.Machine.execBclrRegAbs8 rn aa s
  | .bnotImmReg bit rd => Sys2Proof.Machine.execBnotImmReg bit rd s
  | .bnotImmInd bit erd => Sys2Proof.Machine.execBnotImmInd bit erd s
  | .bnotImmAbs8 bit aa => Sys2Proof.Machine.execBnotImmAbs8 bit aa s
  | .bnotRegReg rn rd => Sys2Proof.Machine.execBnotRegReg rn rd s
  | .bnotRegInd rn erd => Sys2Proof.Machine.execBnotRegInd rn erd s
  | .bnotRegAbs8 rn aa => Sys2Proof.Machine.execBnotRegAbs8 rn aa s
  | .btstImmReg bit rd => Sys2Proof.Machine.execBtstImmReg bit rd s
  | .btstImmInd bit erd => Sys2Proof.Machine.execBtstImmInd bit erd s
  | .btstImmAbs8 bit aa => Sys2Proof.Machine.execBtstImmAbs8 bit aa s
  | .btstRegReg rn rd => Sys2Proof.Machine.execBtstRegReg rn rd s
  | .btstRegInd rn erd => Sys2Proof.Machine.execBtstRegInd rn erd s
  | .btstRegAbs8 rn aa => Sys2Proof.Machine.execBtstRegAbs8 rn aa s
  | .bandReg bit rd => Sys2Proof.Machine.execBandReg bit rd s
  | .bandInd bit erd => Sys2Proof.Machine.execBandInd bit erd s
  | .bandAbs8 bit aa => Sys2Proof.Machine.execBandAbs8 bit aa s
  | .biandReg bit rd => Sys2Proof.Machine.execBiandReg bit rd s
  | .biandInd bit erd => Sys2Proof.Machine.execBiandInd bit erd s
  | .biandAbs8 bit aa => Sys2Proof.Machine.execBiandAbs8 bit aa s
  | .borReg bit rd => Sys2Proof.Machine.execBorReg bit rd s
  | .borInd bit erd => Sys2Proof.Machine.execBorInd bit erd s
  | .borAbs8 bit aa => Sys2Proof.Machine.execBorAbs8 bit aa s
  | .biorReg bit rd => Sys2Proof.Machine.execBiorReg bit rd s
  | .biorInd bit erd => Sys2Proof.Machine.execBiorInd bit erd s
  | .biorAbs8 bit aa => Sys2Proof.Machine.execBiorAbs8 bit aa s
  | .bxorReg bit rd => Sys2Proof.Machine.execBxorReg bit rd s
  | .bxorInd bit erd => Sys2Proof.Machine.execBxorInd bit erd s
  | .bxorAbs8 bit aa => Sys2Proof.Machine.execBxorAbs8 bit aa s
  | .bixorReg bit rd => Sys2Proof.Machine.execBixorReg bit rd s
  | .bixorInd bit erd => Sys2Proof.Machine.execBixorInd bit erd s
  | .bixorAbs8 bit aa => Sys2Proof.Machine.execBixorAbs8 bit aa s
  | .bldReg bit rd => Sys2Proof.Machine.execBldReg bit rd s
  | .bldInd bit erd => Sys2Proof.Machine.execBldInd bit erd s
  | .bldAbs8 bit aa => Sys2Proof.Machine.execBldAbs8 bit aa s
  | .bildReg bit rd => Sys2Proof.Machine.execBildReg bit rd s
  | .bildInd bit erd => Sys2Proof.Machine.execBildInd bit erd s
  | .bildAbs8 bit aa => Sys2Proof.Machine.execBildAbs8 bit aa s
  | .bstReg bit rd => Sys2Proof.Machine.execBstReg bit rd s
  | .bstInd bit erd => Sys2Proof.Machine.execBstInd bit erd s
  | .bstAbs8 bit aa => Sys2Proof.Machine.execBstAbs8 bit aa s
  | .bistReg bit rd => Sys2Proof.Machine.execBistReg bit rd s
  | .bistInd bit erd => Sys2Proof.Machine.execBistInd bit erd s
  | .bistAbs8 bit aa => Sys2Proof.Machine.execBistAbs8 bit aa s
  | .bra d => Sys2Proof.Machine.execBra d s
  | .brn d => Sys2Proof.Machine.execBrn d s
  | .bhi d => Sys2Proof.Machine.execBhi d s
  | .bls d => Sys2Proof.Machine.execBls d s
  | .bcc d => Sys2Proof.Machine.execBcc d s
  | .bcs d => Sys2Proof.Machine.execBcs d s
  | .bne d => Sys2Proof.Machine.execBne d s
  | .beq d => Sys2Proof.Machine.execBeq d s
  | .bvc d => Sys2Proof.Machine.execBvc d s
  | .bvs d => Sys2Proof.Machine.execBvs d s
  | .bpl d => Sys2Proof.Machine.execBpl d s
  | .bmi d => Sys2Proof.Machine.execBmi d s
  | .bge d => Sys2Proof.Machine.execBge d s
  | .blt d => Sys2Proof.Machine.execBlt d s
  | .bgt d => Sys2Proof.Machine.execBgt d s
  | .ble d => Sys2Proof.Machine.execBle d s
  | .jmpInd ern => Sys2Proof.Machine.execJmpInd ern s
  | .jmpAbs24 aa => Sys2Proof.Machine.execJmpAbs24 aa s
  | .jmpMemInd aa => Sys2Proof.Machine.execJmpMemInd aa s
  | .bsr8 disp => Sys2Proof.Machine.execBsr8 disp s
  | .bsr16 disp => Sys2Proof.Machine.execBsr16 disp s
  | .jsrInd ern => Sys2Proof.Machine.execJsrInd ern s
  | .jsrAbs24 aa => Sys2Proof.Machine.execJsrAbs24 aa s
  | .jsrMemInd aa => Sys2Proof.Machine.execJsrMemInd aa s
  | .rts => Sys2Proof.Machine.execRts s
  | .trapa vec => Sys2Proof.Machine.execTrapa vec s
  | .rte => Sys2Proof.Machine.execRte s
  | .sleep => Sys2Proof.Machine.execSleep s
  | .ldcImm imm => Sys2Proof.Machine.execLdcImm imm s
  | .ldcReg rs => Sys2Proof.Machine.execLdcReg rs s
  | .ldcInd ers => Sys2Proof.Machine.execLdcInd ers s
  | .ldcDisp16 disp ers => Sys2Proof.Machine.execLdcDisp16 disp ers s
  | .ldcDisp24 disp ers => Sys2Proof.Machine.execLdcDisp24 disp ers s
  | .ldcPostInc ers => Sys2Proof.Machine.execLdcPostInc ers s
  | .ldcAbs16 aa => Sys2Proof.Machine.execLdcAbs16 aa s
  | .ldcAbs24 aa => Sys2Proof.Machine.execLdcAbs24 aa s
  | .stcReg rd => Sys2Proof.Machine.execStcReg rd s
  | .stcInd erd => Sys2Proof.Machine.execStcInd erd s
  | .stcDisp16 disp erd => Sys2Proof.Machine.execStcDisp16 disp erd s
  | .stcDisp24 disp erd => Sys2Proof.Machine.execStcDisp24 disp erd s
  | .stcPreDec erd => Sys2Proof.Machine.execStcPreDec erd s
  | .stcAbs16 aa => Sys2Proof.Machine.execStcAbs16 aa s
  | .stcAbs24 aa => Sys2Proof.Machine.execStcAbs24 aa s
  | .andc imm => Sys2Proof.Machine.execAndc imm s
  | .orc imm => Sys2Proof.Machine.execOrc imm s
  | .xorc imm => Sys2Proof.Machine.execXorc imm s
  | .nop => Sys2Proof.Machine.execNop s
  | .eepmovB => Sys2Proof.Machine.execEepmovB s
  | .eepmovW => Sys2Proof.Machine.execEepmovW s

end Sys2Proof.Machine
end

