-- ==== Sys2Proof/Machine/Fetch.lean ====
section
/-! DEFINITION. Fetching an instruction's bytes and decoding them (R79, R125, R126). -/

namespace Sys2Proof.Machine

/-- Up to `k` words from an address on, as far as they can be read, and why the next one cannot: what a fetch would see. -/
def State.fetchWords : Nat → Addr → State → List Byte × Option Stop
  | 0, _, _ => ([], none)
  | k + 1, a, s =>
    match s.readWord a with
    | .error why => ([], some why)
    | .ok (w, s1) =>
      let rest := State.fetchWords k (a + 2) s1
      (w.extractLsb' 8 8 :: w.extractLsb' 0 8 :: rest.1, rest.2)

/-- The state after the fetch of `k` words: the side effects of reading them (R79, R100). Log 21. -/
def State.afterFetch : Nat → Addr → State → State
  | 0, _, s => s
  | k + 1, a, s =>
    match s.readWord a with
    | .error _ => s
    | .ok (_, s1) => State.afterFetch k (a + 2) s1

/-- The instruction at PC, with "the least significant PC bit regarded as 0" (R27, R79), and the state after the fetch of
its words. Bytes that are no instruction are refused (R125, R126); an instruction that cannot be read to its end stops as
the access to it does. -/
def State.fetch (s : State) : Res (Instr × State) :=
  let bytes := State.fetchWords (maxLength / 2) (evenAddr s.pc) s
  match decode bytes.1 with
  | .ok (i, rest) => .ok (i, State.afterFetch ((bytes.1.length - rest.length) / 2) (evenAddr s.pc) s)
  | .error .truncated => .error (bytes.2.getD (.refusal .undefinedInstruction))
  | .error .unowned | .error .fixedBits => .error (.refusal .undefinedInstruction)

/-- Places a byte in the cell an address selects, whatever the cell is (the memory image of R461). -/
def State.placeByte (s : State) (a : Addr) (v : Byte) : State :=
  match s.locate a with
  | .ram k | .rom k | .writeOnly k => { s with mem := s.mem.write k v }
  | .disabledRam | .device _ | .reg _ | .stop _ => s

/-- Places bytes from an address on. -/
def State.placeBytes : List Byte → Addr → State → State
  | [], _, s => s
  | b :: bs, a, s => State.placeBytes bs (a + 1) (s.placeByte a b)

/-- Readies the machine to fetch the bytes at PC in its next step: a program runs, no pin asserts reset or standby, no
interrupt comes first. Log 4. -/
def State.readyToFetch (s : State) : State :=
  { s with pstate := .program, resLow := false, resDuring := none, stbyLow := false, irqInhibit := true }

end Sys2Proof.Machine
end

