-- ==== Sys2Proof/Machine/Interrupts.lean ====
section
/-! DEFINITION. The interrupt controller: pins, request flags, the choice among requests, the mask, and the entry of an
accepted interrupt (R378 to R383, R386, R410). The register layouts and the mask table are general knowledge by the
spec's own account (93 G9, G16 to G19). PRESUMED, log 24. -/

namespace Sys2Proof.Machine

/-! ### Sources (R364, R366, R378, R382) -/

/-- The maskable pins (R378). -/
inductive IrqLine where
  | irq0 | irq1 | irq4 | irq5
  deriving DecidableEq, Repr

/-- The lines in ascending vector order. -/
def IrqLine.all : List IrqLine := [.irq0, .irq1, .irq4, .irq5]

/-- The bit of a line in ISCR, IER and ISR (R53 to R55). -/
def IrqLine.bit : IrqLine → Nat
  | .irq0 => 0
  | .irq1 => 1
  | .irq4 => 4
  | .irq5 => 5

/-- The vector number of a line (R364). -/
def IrqLine.vector : IrqLine → Nat
  | .irq0 => 12
  | .irq1 => 13
  | .irq4 => 16
  | .irq5 => 17

/-- The bit of IPRA that gives a line its priority (R51, R382). -/
def IrqLine.ipraBit : IrqLine → Nat
  | .irq0 => 7
  | .irq1 => 6
  | .irq4 | .irq5 => 4

/-- The level of a line's pin. -/
def Pins.level (p : Pins) : IrqLine → Bool
  | .irq0 => p.irq0
  | .irq1 => p.irq1
  | .irq4 => p.irq4
  | .irq5 => p.irq5

/-- The internal sources in ascending vector order (R366). -/
def moduleSources : List ModuleInterrupt := [
  .wovi, .imia0, .imib0, .ovi0, .imia1, .imib1, .ovi1, .imia2, .imib2, .ovi2, .imia3, .imib3, .ovi3,
  .imia4, .imib4, .ovi4, .eri0, .rxi0, .txi0, .tei0, .eri1, .rxi1, .txi1, .tei1, .adi]

/-- The vector number of an internal source (R366). -/
def moduleVector : ModuleInterrupt → Nat
  | .wovi => 20
  | .imia0 => 24 | .imib0 => 25 | .ovi0 => 26
  | .imia1 => 28 | .imib1 => 29 | .ovi1 => 30
  | .imia2 => 32 | .imib2 => 33 | .ovi2 => 34
  | .imia3 => 36 | .imib3 => 37 | .ovi3 => 38
  | .imia4 => 40 | .imib4 => 41 | .ovi4 => 42
  | .eri0 => 52 | .rxi0 => 53 | .txi0 => 54 | .tei0 => 55
  | .eri1 => 56 | .rxi1 => 57 | .txi1 => 58 | .tei1 => 59
  | .adi => 60

/-- The priority bit of an internal source: a bit of IPRA, or the bit of IPRB that the layout names (R51, R52, R382). -/
def State.modulePriority (s : State) : ModuleInterrupt → Bool
  | .wovi => s.ipra.getLsbD 3
  | .imia0 | .imib0 | .ovi0 => s.ipra.getLsbD 2
  | .imia1 | .imib1 | .ovi1 => s.ipra.getLsbD 1
  | .imia2 | .imib2 | .ovi2 => s.ipra.getLsbD 0
  | .imia3 | .imib3 | .ovi3 => s.iprb.getLsbD s.iprbLayout.itu3.val
  | .imia4 | .imib4 | .ovi4 => s.iprb.getLsbD s.iprbLayout.itu4.val
  | .eri0 | .rxi0 | .txi0 | .tei0 => s.iprb.getLsbD s.iprbLayout.sci0.val
  | .eri1 | .rxi1 | .txi1 | .tei1 => s.iprb.getLsbD s.iprbLayout.sci1.val
  | .adi => s.iprb.getLsbD s.iprbLayout.ad.val

/-- An interrupt source. -/
inductive Source where
  | nmi
  | irq (line : IrqLine)
  | internal (m : ModuleInterrupt)
  deriving DecidableEq, Repr

/-- The vector number of a source (R364, R366). -/
def Source.vector : Source → Nat
  | .nmi => 7
  | .irq l => l.vector
  | .internal m => moduleVector m

/-- Whether a source has priority level 1 (R51, R52, R382). NMI has no priority bit. -/
def State.levelOne (s : State) : Source → Bool
  | .nmi => true
  | .irq l => s.ipra.getLsbD l.ipraBit
  | .internal m => s.modulePriority m

/-! ### Pins and flags (R383) -/

/-- SYSCR bit 2, NMIEG (R47). -/
def State.nmiRising (s : State) : Bool := s.syscr.getLsbD 2

/-- Whether the NMI pin has made the edge NMIEG selects since it was last sampled (R47, R383). -/
def State.nmiEdge (s : State) : Bool :=
  if s.nmiRising then !s.pinsSeen.nmi && s.pins.nmi else s.pinsSeen.nmi && !s.pins.nmi

/-- Whether a line is sensed by its falling edge; else by its low level (R53). -/
def State.edgeSensed (s : State) (l : IrqLine) : Bool := s.iscr.getLsbD l.bit

/-- The ISR flag of a line after sampling its pin: set by a falling edge, or equal to the low level (R55, R383). -/
def State.sampledFlag (s : State) (l : IrqLine) : Bool :=
  if s.edgeSensed l then s.isr.getLsbD l.bit || (s.pinsSeen.level l && !s.pins.level l) else !s.pins.level l

/-- A byte with bit `i` set or cleared. -/
def withBit (v : Byte) (i : Nat) (b : Bool) : Byte := if b then v ||| (1#8 <<< i) else v &&& ~~~(1#8 <<< i)

/-- ISR after sampling the pins. -/
def State.sampledIsr (s : State) : Byte :=
  IrqLine.all.foldl (fun v l => withBit v l.bit (s.sampledFlag l)) s.isr

/-- Samples the pins, once per step before the fetch (R383, 92 D17). A flag that is no longer set is no longer read as
1 (log 23). -/
def State.samplePins (s : State) : State :=
  { s with
    nmiRequest := s.nmiRequest || s.nmiEdge
    isr := s.sampledIsr
    isrRead := s.isrRead &&& s.sampledIsr
    pinsSeen := s.pins }

/-! ### Choice and mask (R380, R382) -/

/-- An IRQ request: its flag is set and IER enables it (R54, R383). -/
def State.irqRequested (s : State) (l : IrqLine) : Bool := s.isr.getLsbD l.bit && s.ier.getLsbD l.bit

/-- A request of a module: none in software standby mode, where "internal interrupts cannot occur" (92 D14). -/
def State.moduleRequested (s : State) (m : ModuleInterrupt) : Bool :=
  decide (m ∈ s.moduleRequests) && decide (s.pstate ≠ .softwareStandby)

/-- The requests other than NMI, in ascending vector order: the fixed default order (R382). -/
def State.maskableRequests (s : State) : List Source :=
  ((IrqLine.all.filter s.irqRequested).map .irq) ++ ((moduleSources.filter s.moduleRequested).map .internal)

/-- The request the controller presents: NMI, then level 1, then level 0, each by ascending vector number (R382). -/
def State.presented (s : State) : Option Source :=
  if s.nmiRequest then some .nmi
  else
    match s.maskableRequests.find? s.levelOne with
    | some r => some r
    | none => s.maskableRequests.head?

/-- The mask (R380): I masks; with UE = 0 and UI = 0 it spares priority level 1; NMI "is always accepted". -/
def State.passesMask (s : State) : Source → Bool
  | .nmi => true
  | r => !s.flag .I || (!s.userBitEnabled && !s.flag .UI && s.levelOne r)

/-- The request that is accepted at this boundary, if any (R380, R381). -/
def State.accepted (s : State) : Option Source :=
  if s.irqInhibit then none else s.presented.filter s.passesMask

/-! ### Entry (R383, R386) -/

/-- What acceptance clears: the NMI request; the flag of an edge-sensed line (R383). A level-sensed flag follows its
pin, a module's request is the module's (log 25). -/
def State.acknowledge (s : State) : Source → State
  | .nmi => { s with nmiRequest := false }
  | .irq l =>
    if s.edgeSensed l then { s with isr := withBit s.isr l.bit false, isrRead := withBit s.isrRead l.bit false } else s
  | .internal _ => s

/-- The entry sequence of an accepted interrupt, with the return address in PC (R386, R460). -/
def State.enterInterrupt (s : State) (r : Source) : Res State :=
  ((s.acknowledge r).setPstate .program).takeException 0 r.vector s.pc

end Sys2Proof.Machine
end

