-- ==== Sys2Proof/Machine/Processing.lean ====
section
/-! DEFINITION. Reset, the reset state, hardware standby, sleep and software standby (R370, R400 to R407). -/

namespace Sys2Proof.Machine

/-- How many bytes of on-chip RAM there are (R93). -/
def Product.ramSize (p : Product) : Nat := 0xFF10 - Product.ramStart p

/-- On-chip RAM after a reset: "unspecified after every reset" (92 D7, R432). Log 26. -/
def State.scrambleRam (s : State) : State :=
  s.freeCells (fun _ => true) (Product.ramSize s.product) (topBase s.mcuMode + Product.ramStart s.product)

/-- The general registers and the CCR bits other than I after a reset: "not initialized" (R60, R432). Log 26. -/
def State.scrambleRegisters (s : State) : State :=
  { s.drawn 9 with
    er := Vector.ofFn fun n => Config.freeValue (s.draws + n.val)
    ccr := (Config.freeValue (s.draws + 8)).extractLsb' 0 8 }

/-- RESET EXCEPTION HANDLING, when RES goes high: everything is initialised, I is set, and PC is read from the reset
vector; nothing is pushed; no interrupt before the first instruction (R60, R370, R374). -/
def State.releaseReset (s : State) : Res State :=
  let s1 := s.initialiseControl.scrambleRegisters.scrambleRam.setI
  (s1.holdOff.setPstate .program).vectorTo 0

/-- STBY goes low: hardware standby mode, "on-chip RAM contents are retained" (R405). Log 33. -/
def State.enterHardwareStandby (s : State) : State := s.initialiseControl.setPstate .hardwareStandby

/-- Whether an external interrupt ends software standby mode: NMI, or an IRQn that IER enables (R404, 92 D14). -/
def State.wakes (s : State) : Bool := s.nmiRequest || IrqLine.all.any s.irqRequested

/-- A boundary in sleep mode: an accepted interrupt is entered, else the machine sleeps on (R403). -/
def State.sleepStep (s : State) : Res State :=
  match s.accepted with
  | some r => s.enterInterrupt r
  | none => .ok s

/-- A boundary in software standby mode: the woken CPU "takes that interrupt if the mask allows, else continues after
the SLEEP" (R404, 92 D14). Log 27. -/
def State.standbyStep (s : State) : Res State :=
  if s.wakes then
    match s.accepted with
    | some r => s.enterInterrupt r
    | none => .ok (s.setPstate .program)
  else .ok s

/-- A boundary in the reset state (R370, R405, R406). -/
def State.resetStep (s : State) : Res State :=
  if s.stbyLow then .ok s.enterHardwareStandby
  else if s.resLow then .ok s
  else s.releaseReset

/-- RES has gone low in this step after the last write of what ran: it is low at the next boundary (R406). Log 38. -/
def State.resFalls (s : State) : State :=
  if s.resDuring.isSome then { s with resLow := true, resDuring := none } else s

/-- The end of a step. -/
def settle : Outcome → Outcome
  | .next s => .next s.resFalls
  | .fault f => .fault f
  | .refused r => .refused r

/-- A boundary in hardware standby mode: "STBY high, RES low" leads to the reset state (R405). Log 33. -/
def State.hardwareStandbyStep (s : State) : Res State :=
  if !s.stbyLow && s.resLow then .ok s.enterReset else .ok s

end Sys2Proof.Machine
end

