-- ==== Sys2Proof/Machine/Step.lean ====
section
/-! DEFINITION. One step of the machine (R460). -/

namespace Sys2Proof.Machine

/-- Runs the instruction at PC; the hold-off ends with it unless it sets it again (R381, R460). -/
def State.runInstruction (s : State) : Host.Outcome State Fault Refusal :=
  match s.fetch with
  | .ok (i, s1) => exec i { s1 with irqInhibit := false }
  | .error why => finish (.error why)

/-- A boundary in the program execution state: an accepted interrupt, else the next instruction (R401, R460). -/
def State.programStep (s : State) : Host.Outcome State Fault Refusal :=
  match s.accepted with
  | some r => finish (s.enterInterrupt r)
  | none => s.runInstruction

/-- A step after the pins have been sampled: RES, STBY, then what the processing state does (R400, R460). -/
def State.sampledStep (s : State) : Host.Outcome State Fault Refusal :=
  match s.pstate with
  | .hardwareStandby => finish s.hardwareStandbyStep
  | .reset => finish s.resetStep
  | .program =>
    if s.resLow then .next s.enterReset
    else if s.stbyLow then .next s.enterHardwareStandby
    else s.programStep
  | .sleep =>
    if s.resLow then .next s.enterReset
    else if s.stbyLow then .next s.enterHardwareStandby
    else finish s.sleepStep
  | .softwareStandby =>
    if s.resLow then .next s.enterReset
    else if s.stbyLow then .next s.enterHardwareStandby
    else finish s.standbyStep

/-- One step (R460). -/
def step (s : State) : Host.Outcome State Fault Refusal := settle s.samplePins.sampledStep

/-- The state with an instruction of the opcode table placed where the next step fetches it, as the memory image of R461
would hold it. Log 4, log 7. -/
def State.withFetchWord (s : State) (nbits w : Nat) : State :=
  (State.placeBytes (tableBytes nbits w) (evenAddr s.pc) s).readyToFetch

end Sys2Proof.Machine
end

