-- ==== Sys2Proof/Safety.lean ====
section
/-! DEFINITION. The terms claims are stated in: the invariant of the machine, and what it means that an instruction
leaves a part of the state alone. -/

namespace Sys2Proof.Machine

/-- What every step keeps: memory is in its canonical form; the program counter is even (R27, 92 D3); SYSCR bit 1 is 1
(R48); ISR has no flag but those of IRQ0, IRQ1, IRQ4 and IRQ5, and only a set flag has been read as 1 (R55); the modules
request nothing in the states in which they are reset (R404 to R406). -/
structure Inv (s : State) : Prop where
  mem : s.mem.wf = true
  pc : s.pc.getLsbD 0 = false
  syscr : s.syscr.getLsbD 1 = true
  isr : s.isr &&& 0xCC#8 = 0#8
  isrRead : s.isrRead &&& ~~~s.isr = 0#8
  quiet : s.pstate = .reset ∨ s.pstate = .softwareStandby ∨ s.pstate = .hardwareStandby → s.moduleRequests = []

/-- What no instruction changes: the constants of a run, the pins, and the requests from outside. -/
structure SameInputs (s t : State) : Prop where
  mcuMode : t.mcuMode = s.mcuMode
  product : t.product = s.product
  platform : t.platform = s.platform
  iprbLayout : t.iprbLayout = s.iprbLayout
  resLow : t.resLow = s.resLow
  resDuring : t.resDuring = s.resDuring
  stbyLow : t.stbyLow = s.stbyLow
  pins : t.pins = s.pins
  pinsSeen : t.pinsSeen = s.pinsSeen

/-- The control registers, as memory holds them (R43, R50), and which flags of ISR have been read (R55). -/
structure SameControl (s t : State) : Prop where
  syscr : t.syscr = s.syscr
  iscr : t.iscr = s.iscr
  ier : t.ier = s.ier
  isr : t.isr = s.isr
  isrRead : t.isrRead = s.isrRead
  ipra : t.ipra = s.ipra
  iprb : t.iprb = s.iprb

/-- No device of the platform has been called (R461). -/
structure SameDevices (s t : State) : Prop where
  answers : t.deviceAnswers = s.deviceAnswers
  calls : t.deviceCalls = s.deviceCalls

/-- The processing state and the requests (R59, R378, R383). -/
structure SameProcessing (s t : State) : Prop where
  pstate : t.pstate = s.pstate
  nmiRequest : t.nmiRequest = s.nmiRequest
  moduleRequests : t.moduleRequests = s.moduleRequests
  nmiDuringTransfer : t.nmiDuringTransfer = s.nmiDuringTransfer

/-- Every cell of memory reads as before, and so does every address that leads to no device: a device answers each read
anew (R461). -/
structure SameMemory (s t : State) : Prop where
  cells : ∀ k : Nat, t.mem.read k = s.mem.read k
  bytes : ∀ a : Addr, (s.locate a).isDevice = false → t.peekByte a = s.peekByte a

/-- Everything but the general registers, PC and CCR is as before, the hold-off included. -/
structure OnlyCpu (s t : State) : Prop where
  inputs : SameInputs s t
  control : SameControl s t
  devices : SameDevices s t
  processing : SameProcessing s t
  memory : SameMemory s t
  irqInhibit : t.irqInhibit = s.irqInhibit

/-- Every 32-bit register but one is as before. -/
def OtherRegs (n : RegNum) (s t : State) : Prop := ∀ m : RegNum, m ≠ n → t.reg32 m = s.reg32 m

/-- Every general register is as before. -/
def SameRegs (s t : State) : Prop := ∀ m : RegNum, t.reg32 m = s.reg32 m

/-- The effect on CCR: I, UI and U as before; H, N, Z, V and C as given, or as before where nothing is given (R40). -/
structure CcrIs (old new : Byte) (h n z v c : Option Bool) : Prop where
  I : getFlag new .I = getFlag old .I
  UI : getFlag new .UI = getFlag old .UI
  U : getFlag new .U = getFlag old .U
  H : getFlag new .H = h.getD (getFlag old .H)
  N : getFlag new .N = n.getD (getFlag old .N)
  Z : getFlag new .Z = z.getD (getFlag old .Z)
  V : getFlag new .V = v.getD (getFlag old .V)
  C : getFlag new .C = c.getD (getFlag old .C)

/-- PC is at the instruction `len` bytes on (R28), with bit 0 dropped (92 D3, log 9). -/
def PcAfter (len : Nat) (s t : State) : Prop := t.pc = evenAddr (s.pc + BitVec.ofNat 24 len)

/-! ### What an instruction on registers answers -/

/-- The instruction completes; RnH or RnL holds `r`, every other bit of the general registers is as before (R23); the
flags are as given, PC is at the next instruction, and nothing else changes. -/
def ResultB (i : Instr) (len : Nat) (s : State) (rd : Reg8) (r : Byte) (h n z v c : Option Bool) : Prop :=
  ∃ t, exec i s = .next t ∧ t.reg8 rd = r ∧ (∀ q, q ≠ rd → t.reg8 q = s.reg8 q) ∧
    (∀ m, t.reg16 (.e m) = s.reg16 (.e m)) ∧ CcrIs s.ccr t.ccr h n z v c ∧ PcAfter len s t ∧ OnlyCpu s t

/-- The same for Rn or En. -/
def ResultW (i : Instr) (len : Nat) (s : State) (rd : Reg16) (r : Word) (h n z v c : Option Bool) : Prop :=
  ∃ t, exec i s = .next t ∧ t.reg16 rd = r ∧ (∀ q, q ≠ rd → t.reg16 q = s.reg16 q) ∧
    CcrIs s.ccr t.ccr h n z v c ∧ PcAfter len s t ∧ OnlyCpu s t

/-- The same for ERn. -/
def ResultL (i : Instr) (len : Nat) (s : State) (rd : RegNum) (r : Long) (h n z v c : Option Bool) : Prop :=
  ∃ t, exec i s = .next t ∧ t.reg32 rd = r ∧ OtherRegs rd s t ∧ CcrIs s.ccr t.ccr h n z v c ∧ PcAfter len s t ∧
    OnlyCpu s t

/-- The instruction completes; only flags and PC change. -/
def ResultFlags (i : Instr) (len : Nat) (s : State) (h n z v c : Option Bool) : Prop :=
  ∃ t, exec i s = .next t ∧ SameRegs s t ∧ CcrIs s.ccr t.ccr h n z v c ∧ PcAfter len s t ∧ OnlyCpu s t

/-! ### The flags of R180, on exact numbers -/

/-- The carry or borrow in, as a number. -/
def cinOf (b : Bool) : Nat := if b then 1 else 0

/-- H of an addition: a carry at bit 3, 11 or 27 (R33). -/
def addH {n : Nat} (d s : BitVec n) (cin : Bool) : Bool :=
  decide (2 ^ (n - 4) ≤ d.toNat % 2 ^ (n - 4) + s.toNat % 2 ^ (n - 4) + cinOf cin)

/-- V of an addition: the exact signed result does not fit (R37, R180). -/
def addV {n : Nat} (d s : BitVec n) (cin : Bool) (r : BitVec n) : Bool :=
  decide (r.toInt ≠ d.toInt + s.toInt + cinOf cin)

/-- C of an addition: a carry (R38). -/
def addC {n : Nat} (d s : BitVec n) (cin : Bool) : Bool := decide (2 ^ n ≤ d.toNat + s.toNat + cinOf cin)

/-- H of a subtraction: a borrow at bit 3, 11 or 27 (R33). -/
def subH {n : Nat} (d s : BitVec n) (cin : Bool) : Bool :=
  decide (d.toNat % 2 ^ (n - 4) < s.toNat % 2 ^ (n - 4) + cinOf cin)

/-- V of a subtraction: the exact signed result does not fit (R37, R180). -/
def subV {n : Nat} (d s : BitVec n) (cin : Bool) (r : BitVec n) : Bool :=
  decide (r.toInt ≠ d.toInt - s.toInt - cinOf cin)

/-- C of a subtraction: a borrow (R38). -/
def subC {n : Nat} (d s : BitVec n) (cin : Bool) : Bool := decide (d.toNat < s.toNat + cinOf cin)

/-- The sum modulo 2^n. -/
def sumOf {n : Nat} (d s : BitVec n) (cin : Bool) : BitVec n := BitVec.ofNat n (d.toNat + s.toNat + cinOf cin)

/-- The difference modulo 2^n. -/
def differenceOf {n : Nat} (d s : BitVec n) (cin : Bool) : BitVec n :=
  BitVec.ofInt n ((d.toNat : Int) - s.toNat - cinOf cin)

/-! ### Memory operands -/

/-- Every general register is as the addressing mode leaves it, but for ERn (R83 to R87). -/
def RegsAfterMode (m : Mode) (nb : Nat) (s t : State) (n : RegNum) : Prop :=
  if m = .postInc n then t.reg32 n = s.reg32 n + BitVec.ofNat 32 nb
  else if m = .preDec n then t.reg32 n = s.reg32 n - BitVec.ofNat 32 nb
  else t.reg32 n = s.reg32 n

/-- The cells of memory are as before. -/
def SameCells (s t : State) : Prop := ∀ k : Nat, t.mem.read k = s.mem.read k

/-- The cells of memory are as before, but for module registers that the platform supplies, which take free values when the
modules are reset (R60, R404 to R406), those of I/O ports only if `ports` says so. Log 17. -/
def SameCellsButModules (ports : Bool) (s t : State) : Prop :=
  ∀ k : Nat, s.moduleCell ports k = false → t.mem.read k = s.mem.read k

/-- A device has been called with a value to write, and nothing else of memory or the registers has changed (R461). -/
structure CalledDevice (a : Addr) (size : Nat) (v : Word) (s t : State) : Prop where
  cells : SameCells s t
  control : SameControl s t
  answers : t.deviceAnswers = s.deviceAnswers
  calls : t.deviceCalls = ⟨phys s.mcuMode a, size, true, v⟩ :: s.deviceCalls

/-- One byte has been stored: to a cell (every other cell as before, no control register changed), to nothing (on-chip
ROM, log 14), to a device, or to a control register (as `State.writeReg` says, every cell as before). -/
def StoredByte (a : Addr) (v : Byte) (s t : State) : Prop :=
  match s.locate a with
  | .ram k | .writeOnly k =>
    (∀ j, t.mem.read j = if j = k then v else s.mem.read j) ∧ SameControl s t ∧ SameDevices s t
  | .rom _ | .disabledRam => SameCells s t ∧ SameControl s t ∧ SameDevices s t
  | .device _ => CalledDevice a 1 (v.zeroExtend 16) s t
  | .reg r => SameCells s t ∧ SameControl (s.writeReg r v) t ∧ SameDevices s t
  | .stop _ => False

/-- A word has been stored at an even address: to a device with a 16-bit bus in one call, else its upper byte first (R76,
R98, R99). Log 35. -/
def StoredWord (a : Addr) (v : Word) (s t : State) : Prop :=
  if s.wideDevice (evenAddr a) then CalledDevice (evenAddr a) 2 v s t
  else
    ∃ s1, SameInputs s s1 ∧ StoredByte (evenAddr a) (v.extractLsb' 8 8) s s1 ∧
      StoredByte (evenAddr a + 1) (v.extractLsb' 0 8) s1 t

/-- A longword has been stored, its upper word first, at an even address (R77). Log 35. -/
def StoredLong (a : Addr) (v : Long) (s t : State) : Prop :=
  ∃ s1, SameInputs s s1 ∧ StoredWord a (v.extractLsb' 16 16) s s1 ∧
    StoredWord (evenAddr a + 2) (v.extractLsb' 0 16) s1 t

/-- The `nb` bytes from `a` on can be stored to: none is protected (R104), none leads nowhere. -/
def Storable (s : State) (window nb : Nat) (a : Addr) : Prop :=
  ∀ j, j < nb → s.inStream window (a + BitVec.ofNat 24 j) = false ∧
    ∀ why, s.locate (a + BitVec.ofNat 24 j) ≠ .stop why

/-- Whether a place is a cell of memory that reads and writes. -/
def Place.isRam : Place → Bool
  | .ram _ => true
  | _ => false

/-- Whether a place is a cell of memory that reads as what it holds. -/
def Place.isMemory : Place → Bool
  | .ram _ | .rom _ => true
  | _ => false

/-- The `nb` bytes from `a` on are cells that read and write. -/
def RamAt (s : State) (nb : Nat) (a : Addr) : Prop := ∀ j, j < nb → (s.locate (a + BitVec.ofNat 24 j)).isRam = true

/-- The bytes from `a` on hold a longword, most significant byte first (R74), in cells of memory. -/
def HoldsLong (s : State) (a : Addr) (v : Long) : Prop :=
  ∀ j, j < 4 → (s.locate (a + BitVec.ofNat 24 j)).isMemory = true ∧
    s.peekByte (a + BitVec.ofNat 24 j) = .ok (v.extractLsb' (24 - 8 * j) 8)

/-- Two runs of bytes share no byte. -/
def Apart (s : State) (a : Addr) (na : Nat) (b : Addr) (nb : Nat) : Prop :=
  ∀ i, i < na → ∀ j, j < nb → phys s.mcuMode (a + BitVec.ofNat 24 i) ≠ phys s.mcuMode (b + BitVec.ofNat 24 j)

/-- Every byte outside the run of `nb` bytes from `a` on reads as before, but for what a device answers. -/
def SameOutside (s t : State) (a : Addr) (nb : Nat) : Prop :=
  ∀ b : Addr, (s.locate b).isDevice = false →
    (∀ j, j < nb → phys s.mcuMode b ≠ phys s.mcuMode (a + BitVec.ofNat 24 j)) → t.peekByte b = s.peekByte b

/-- One of the `nb` bytes from `a` on lies in the instruction of `len` bytes at PC or the 4 bytes after it (R104); all of
them lead somewhere, and RES stays high. -/
structure HitsStream (len nb : Nat) (a : Addr) (s : State) : Prop where
  resHigh : s.resDuring = none
  evenPc : s.pc.getLsbD 0 = false
  leads : ∀ j, j < nb → ∀ why, s.locate (a + BitVec.ofNat 24 j) ≠ .stop why
  hits : ∃ j k, j < nb ∧ k < len + 4 ∧
    phys s.mcuMode (a + BitVec.ofNat 24 j) = phys s.mcuMode (s.pc + BitVec.ofNat 24 k)

/-- The bus cycles of a word access at an even address (R99). -/
def wordCycles (s : State) (a : Addr) : Nat := if s.singleCycle a then 1 else 2

/-- RES has gone low after the first `k` of the bytes that `b` numbers were written from `a` on: those bytes "stay
written", no other cell has changed, and the machine is in the reset state with its control registers initialised (R60,
R406). Log 38. Of module registers that the platform supplies as cells, which are initialised then, nothing is said: they
take free values, log 17. -/
structure AbandonedAfter (k : Nat) (a : Addr) (b : Nat → Byte) (s t : State) : Prop where
  written : ∀ j, j < k → ∀ c, s.locate (a + BitVec.ofNat 24 j) = .ram c → s.moduleCell true c = false →
    t.mem.read c = b j
  others : ∀ c, s.moduleCell true c = false → (∀ j, j < k → s.locate (a + BitVec.ofNat 24 j) ≠ .ram c) → t.mem.read c = s.mem.read c
  pstate : t.pstate = .reset
  resLow : t.resLow = true
  maskI : t.flag .I = true
  syscr : t.syscr = 0x0B#8
  control : t.iscr = 0#8 ∧ t.ier = 0#8 ∧ t.isr = 0#8 ∧ t.ipra = 0#8 ∧ t.iprb = 0#8

/-- The address of a stack frame: four bytes below ER7, bit 0 taken as 0 (R386, R392). -/
def frameAddr (s : State) : Addr := evenAddr (ea24 (s.reg32 sp - 4))

/-- An exception has been taken (R386, R389): ER7 is 4 lower, the frame holds CCR and the return address, I is set, UI is
set if UE is 0, no other flag changes, PC is the vector's lower 24 bits, and nothing else changes. -/
structure TookException (s t : State) (ret : Addr) (vector : Long) : Prop where
  stackPointer : t.reg32 sp = s.reg32 sp - 4
  otherRegs : OtherRegs sp s t
  frame : HoldsLong t (frameAddr s) (s.ccr ++ ret)
  outside : SameOutside s t (frameAddr s) 4
  maskI : t.flag .I = true
  maskUI : t.flag .UI = if s.userBitEnabled then s.flag .UI else true
  otherFlags : ∀ f, f ≠ .I → f ≠ .UI → t.flag f = s.flag f
  pc : t.pc = evenAddr (ea24 vector)
  inputs : SameInputs s t
  control : SameControl s t
  devices : SameDevices s t

/-! ### Interrupt sources (R51, R52, R364, R366, R382) -/

/-- The vector number of each interrupt source, as the tables of R364 and R366 list them. -/
def sourceVectors : List (Source × Nat) := [
  (.nmi, 7), (.irq .irq0, 12), (.irq .irq1, 13), (.irq .irq4, 16), (.irq .irq5, 17), (.internal .wovi, 20),
  (.internal .imia0, 24), (.internal .imib0, 25), (.internal .ovi0, 26),
  (.internal .imia1, 28), (.internal .imib1, 29), (.internal .ovi1, 30),
  (.internal .imia2, 32), (.internal .imib2, 33), (.internal .ovi2, 34),
  (.internal .imia3, 36), (.internal .imib3, 37), (.internal .ovi3, 38),
  (.internal .imia4, 40), (.internal .imib4, 41), (.internal .ovi4, 42),
  (.internal .eri0, 52), (.internal .rxi0, 53), (.internal .txi0, 54), (.internal .tei0, 55),
  (.internal .eri1, 56), (.internal .rxi1, 57), (.internal .txi1, 58), (.internal .tei1, 59),
  (.internal .adi, 60)]

/-- The sources that each bit of IPRA gives its priority (R51, R382). -/
def ipraGroups : List (Nat × List Source) := [
  (7, [.irq .irq0]), (6, [.irq .irq1]), (4, [.irq .irq4, .irq .irq5]), (3, [.internal .wovi]),
  (2, [.internal .imia0, .internal .imib0, .internal .ovi0]),
  (1, [.internal .imia1, .internal .imib1, .internal .ovi1]),
  (0, [.internal .imia2, .internal .imib2, .internal .ovi2])]

/-- The sources that each bit of IPRB gives its priority: ITU channels 3 and 4, SCI channels 0 and 1, the A/D converter, at
the bits the layout names (R52). -/
def iprbGroups (l : IprbLayout) : List (Nat × List Source) := [
  (l.itu3.val, [.internal .imia3, .internal .imib3, .internal .ovi3]),
  (l.itu4.val, [.internal .imia4, .internal .imib4, .internal .ovi4]),
  (l.sci0.val, [.internal .eri0, .internal .rxi0, .internal .txi0, .internal .tei0]),
  (l.sci1.val, [.internal .eri1, .internal .rxi1, .internal .txi1, .internal .tei1]),
  (l.ad.val, [.internal .adi])]

/-! ### Packed BCD (R61, R196) -/

/-- Two decimal digits in a byte: "upper digit bits 7-4, lower digit bits 3-0". -/
def bcd (k : Nat) : Byte := BitVec.ofNat 8 (k / 10 * 16 + k % 10)

/-! ### What a load and a store answer (R150 to R169) -/

/-- A byte load completes where the byte can be read, and stops as the read does where it cannot (R150, R157). What a
read does is MemoryAccess. -/
def LoadsB (i : Instr) (len : Nat) (m : Mode) (rd : Reg8) (s : State) : Prop :=
  m.modifies ≠ some rd.num →
    (∀ why, s.readByte (s.ea 1 m) = .error why → exec i s = finish (.error why)) ∧
    (∀ v s1, s.readByte (s.ea 1 m) = .ok (v, s1) →
      ∃ t, exec i s = .next t ∧ t.reg8 rd = v ∧ (∀ q, q ≠ rd → q.num = rd.num → t.reg8 q = s.reg8 q) ∧
        t.reg16 (.e rd.num) = s.reg16 (.e rd.num) ∧ (∀ n, n ≠ rd.num → RegsAfterMode m 1 s t n) ∧
        CcrIs s.ccr t.ccr none (some v.msb) (some (v == 0)) (some false) none ∧ PcAfter len s t ∧
        SameInputs s t ∧ SameControl s1 t ∧ SameDevices s1 t ∧ SameProcessing s t ∧ SameMemory s t ∧
        t.irqInhibit = s.irqInhibit)

/-- A word load completes where the word can be read, and stops as the read does where it cannot (R150, R158). -/
def LoadsW (i : Instr) (len : Nat) (m : Mode) (rd : Reg16) (s : State) : Prop :=
  m.modifies ≠ some rd.num →
    (∀ why, s.readWord (s.ea 2 m) = .error why → exec i s = finish (.error why)) ∧
    (∀ v s1, s.readWord (s.ea 2 m) = .ok (v, s1) →
      ∃ t, exec i s = .next t ∧ t.reg16 rd = v ∧ (∀ q, q ≠ rd → q.num = rd.num → t.reg16 q = s.reg16 q) ∧
        (∀ n, n ≠ rd.num → RegsAfterMode m 2 s t n) ∧
        CcrIs s.ccr t.ccr none (some v.msb) (some (v == 0)) (some false) none ∧ PcAfter len s t ∧
        SameInputs s t ∧ SameControl s1 t ∧ SameDevices s1 t ∧ SameProcessing s t ∧ SameMemory s t ∧
        t.irqInhibit = s.irqInhibit)

/-- A longword load completes where the longword can be read, and stops as the read does where it cannot (R150, R159). -/
def LoadsL (i : Instr) (len : Nat) (m : Mode) (rd : RegNum) (s : State) : Prop :=
  m.modifies ≠ some rd →
    (∀ why, s.readLong (s.ea 4 m) = .error why → exec i s = finish (.error why)) ∧
    (∀ v s1, s.readLong (s.ea 4 m) = .ok (v, s1) →
      ∃ t, exec i s = .next t ∧ t.reg32 rd = v ∧ (∀ n, n ≠ rd → RegsAfterMode m 4 s t n) ∧
        CcrIs s.ccr t.ccr none (some v.msb) (some (v == 0)) (some false) none ∧ PcAfter len s t ∧
        SameInputs s t ∧ SameControl s1 t ∧ SameDevices s1 t ∧ SameProcessing s t ∧ SameMemory s t ∧
        t.irqInhibit = s.irqInhibit)

/-- A byte store completes where the byte can be stored (R150, R160); it is refused in the instruction stream (R104) and
stops at another address that leads nowhere; where RES goes low before it, it is abandoned (R406). -/
def StoresB (i : Instr) (len : Nat) (m : Mode) (rs : Reg8) (s : State) : Prop :=
  m.modifies ≠ some rs.num →
    (s.resDuring = none →
      (s.inStream (len + 4) (s.ea 1 m) = true → exec i s = .refused .storeIntoInstructionStream) ∧
      (s.inStream (len + 4) (s.ea 1 m) = false → ∀ why, s.locate (s.ea 1 m) = .stop why →
        exec i s = finish (.error why)) ∧
      (s.mem.wf = true → Storable s (len + 4) 1 (s.ea 1 m) →
        ∃ t, exec i s = .next t ∧ StoredByte (s.ea 1 m) (s.reg8 rs) s t ∧ (∀ n, RegsAfterMode m 1 s t n) ∧
          CcrIs s.ccr t.ccr none (some (s.reg8 rs).msb) (some (s.reg8 rs == 0)) (some false) none ∧ PcAfter len s t ∧
          SameInputs s t ∧ SameProcessing s t ∧ t.irqInhibit = s.irqInhibit)) ∧
    (∀ k, s.resDuring = some k → k < 1 → s.mem.wf = true → RamAt s 1 (s.ea 1 m) →
      Storable s (len + 4) 1 (s.ea 1 m) →
      ∃ t, exec i s = .next t ∧
        AbandonedAfter k (s.ea 1 m) (fun j => (s.reg8 rs).extractLsb' (0 - 8 * j) 8) s t)

/-- A word store completes where both bytes can be stored (R150, R161); it is refused in the instruction stream (R104)
and stops where its first byte leads nowhere; where RES goes low in RAM, what the bus cycles before that wrote stays
written: nothing or, over an 8-bit bus, the upper byte (R99, R406). -/
def StoresW (i : Instr) (len : Nat) (m : Mode) (rs : Reg16) (s : State) : Prop :=
  m.modifies ≠ some rs.num →
    (s.resDuring = none →
      (s.inStream (len + 4) (evenAddr (s.ea 2 m)) = true → exec i s = .refused .storeIntoInstructionStream) ∧
      (s.inStream (len + 4) (evenAddr (s.ea 2 m)) = false → ∀ why, s.locate (evenAddr (s.ea 2 m)) = .stop why →
        exec i s = finish (.error why)) ∧
      (s.mem.wf = true → Storable s (len + 4) 2 (evenAddr (s.ea 2 m)) →
        ∃ t, exec i s = .next t ∧ StoredWord (s.ea 2 m) (s.reg16 rs) s t ∧ (∀ n, RegsAfterMode m 2 s t n) ∧
          CcrIs s.ccr t.ccr none (some (s.reg16 rs).msb) (some (s.reg16 rs == 0)) (some false) none ∧ PcAfter len s t ∧
          SameInputs s t ∧ SameProcessing s t ∧ t.irqInhibit = s.irqInhibit)) ∧
    (∀ k, s.resDuring = some k → k < wordCycles s (evenAddr (s.ea 2 m)) → s.mem.wf = true →
      RamAt s 2 (evenAddr (s.ea 2 m)) → Storable s (len + 4) 2 (evenAddr (s.ea 2 m)) →
      ∃ t, exec i s = .next t ∧
        AbandonedAfter k (evenAddr (s.ea 2 m)) (fun j => (s.reg16 rs).extractLsb' (8 - 8 * j) 8) s t)

/-- A longword store completes where its four bytes can be stored (R150, R162); it is refused in the instruction stream
(R104) and stops where its first byte leads nowhere; where RES goes low in RAM, what the bus cycles before that wrote
stays written (R99, R406). -/
def StoresL (i : Instr) (len : Nat) (m : Mode) (rs : RegNum) (s : State) : Prop :=
  m.modifies ≠ some rs →
    (s.resDuring = none →
      (s.inStream (len + 4) (evenAddr (s.ea 4 m)) = true → exec i s = .refused .storeIntoInstructionStream) ∧
      (s.inStream (len + 4) (evenAddr (s.ea 4 m)) = false → ∀ why, s.locate (evenAddr (s.ea 4 m)) = .stop why →
        exec i s = finish (.error why)) ∧
      (s.mem.wf = true → Storable s (len + 4) 4 (evenAddr (s.ea 4 m)) →
        ∃ t, exec i s = .next t ∧ StoredLong (s.ea 4 m) (s.reg32 rs) s t ∧ (∀ n, RegsAfterMode m 4 s t n) ∧
          CcrIs s.ccr t.ccr none (some (s.reg32 rs).msb) (some (s.reg32 rs == 0)) (some false) none ∧ PcAfter len s t ∧
          SameInputs s t ∧ SameProcessing s t ∧ t.irqInhibit = s.irqInhibit)) ∧
    (∀ k, s.resDuring = some k →
      let first := wordCycles s (evenAddr (s.ea 4 m))
      k < first + wordCycles s (evenAddr (s.ea 4 m) + 2) → s.mem.wf = true → RamAt s 4 (evenAddr (s.ea 4 m)) →
      Storable s (len + 4) 4 (evenAddr (s.ea 4 m)) →
      ∃ t, exec i s = .next t ∧
        AbandonedAfter (if k < first then k else 2 + (k - first)) (evenAddr (s.ea 4 m))
          (fun j => (s.reg32 rs).extractLsb' (24 - 8 * j) 8) s t)

/-! ### Shifts (R250 to R258) -/

/-- The bits of the operand after a shift or rotate to the left by one: `low` enters at bit 0 (R251, R253, R255, R257). -/
def ShiftedLeft {n : Nat} (d r : BitVec n) (low : Bool) : Prop :=
  ∀ i, i < n → r.getLsbD i = if i = 0 then low else d.getLsbD (i - 1)

/-- The bits of the operand after a shift or rotate to the right by one: `high` enters at the top (R252, R254, R256,
R258). -/
def ShiftedRight {n : Nat} (d r : BitVec n) (high : Bool) : Prop :=
  ∀ i, i < n → r.getLsbD i = if i = n - 1 then high else d.getLsbD (i + 1)

/-! ### Bit instructions on memory (R270, R286) -/

/-- A bit instruction on memory reads a byte, changes bit `k` to `x` of that byte, and writes the byte back to the same
address; registers and flags stay (R286). It stops as the read does where the byte cannot be read, is refused in the
instruction stream (R104), and is abandoned where RES goes low before the write (R406). -/
def WritesBit (i : Instr) (a : Addr) (k : Nat) (x : Bool → Bool) (s : State) : Prop :=
  (∀ why, s.readByte a = .error why → exec i s = finish (.error why)) ∧
  (∀ v s1, s.readByte a = .ok (v, s1) →
    (s.resDuring = none → s.inStream 8 a = true → exec i s = .refused .storeIntoInstructionStream) ∧
    (s.resDuring = none → s.mem.wf = true → s.inStream 8 a = false →
      ∃ (t : State) (w : Byte), exec i s = .next t ∧
        (∀ j, j < 8 → w.getLsbD j = if j = k then x (v.getLsbD j) else v.getLsbD j) ∧
        StoredByte a w s1 t ∧ SameRegs s t ∧ t.ccr = s.ccr ∧ PcAfter 4 s t ∧ SameInputs s t ∧
        SameProcessing s t ∧ t.irqInhibit = s.irqInhibit) ∧
    (s.resDuring = some 0 → ∃ t, exec i s = .next t ∧ AbandonedAfter 0 a (fun _ => 0#8) s t))

/-- A bit instruction on memory that only reads: one byte read, one flag (R270). It stops as the read does. -/
def TestsBit (i : Instr) (a : Addr) (z c : Bool → Option Bool) (k : Nat) (s : State) : Prop :=
  (∀ why, s.readByte a = .error why → exec i s = finish (.error why)) ∧
  (∀ v s1, s.readByte a = .ok (v, s1) →
    ∃ t, exec i s = .next t ∧ CcrIs s.ccr t.ccr none none (z (v.getLsbD k)) none (c (v.getLsbD k)) ∧ SameRegs s t ∧
      PcAfter 4 s t ∧ SameInputs s t ∧ SameControl s1 t ∧ SameDevices s1 t ∧ SameProcessing s t ∧ SameMemory s t ∧
      t.irqInhibit = s.irqInhibit)

/-! ### Branches (R300 to R302) -/

/-- The branch completes: PC is the target if it is taken, else the next instruction; nothing else changes (R90, R301,
R302). -/
def Branches (i : Instr) (d : BranchDisp) (taken : Bool) (s : State) : Prop :=
  ∃ t, exec i s = .next t ∧ SameRegs s t ∧ t.ccr = s.ccr ∧ OnlyCpu s t ∧
    t.pc = evenAddr (BitVec.ofInt 24 (match d with
      | .d8 p => s.pc.toNat + 2 + (if taken then p.toInt else 0)
      | .d16 p => s.pc.toNat + 4 + (if taken then p.toInt else 0)))

/-- After a comparison of `d` with `u`, each condition branches on their order as unsigned or as two's-complement
numbers (R183, R300). -/
def BranchesOnOrder {n : Nat} (d u : BitVec n) (disp : BranchDisp) (t : State) : Prop :=
  Branches (.bhi disp) disp (decide (u.toNat < d.toNat)) t ∧ Branches (.bls disp) disp (decide (d.toNat ≤ u.toNat)) t ∧
  Branches (.bcc disp) disp (decide (u.toNat ≤ d.toNat)) t ∧ Branches (.bcs disp) disp (decide (d.toNat < u.toNat)) t ∧
  Branches (.bne disp) disp (decide (d ≠ u)) t ∧ Branches (.beq disp) disp (decide (d = u)) t ∧
  Branches (.bge disp) disp (decide (u.toInt ≤ d.toInt)) t ∧ Branches (.blt disp) disp (decide (d.toInt < u.toInt)) t ∧
  Branches (.bgt disp) disp (decide (u.toInt < d.toInt)) t ∧ Branches (.ble disp) disp (decide (d.toInt ≤ u.toInt)) t

/-- What a call, taken in the state `s1` after its operands have been read, answers: ER7 goes down by 4, a reserved byte
of any value and the return address have been stored as a longword there, PC is the target, and no flag and no other
register changes (R312). Where the stack is RAM, the frame holds them and every other byte is as before. -/
def CalledFrom (i : Instr) (len : Nat) (target : Addr) (s s1 : State) : Prop :=
  ∃ (t : State) (x : Byte), exec i s = .next t ∧ t.pc = evenAddr target ∧ t.reg32 sp = s.reg32 sp - 4 ∧
    OtherRegs sp s t ∧ t.ccr = s.ccr ∧ SameInputs s t ∧ SameProcessing s t ∧ t.irqInhibit = s.irqInhibit ∧
    StoredLong (frameAddr s) (x ++ (s.pc + BitVec.ofNat 24 len)) s1 t ∧
    (RamAt s 4 (frameAddr s) → HoldsLong t (frameAddr s) (x ++ (s.pc + BitVec.ofNat 24 len)) ∧
      SameOutside s t (frameAddr s) 4 ∧ SameControl s1 t ∧ SameDevices s1 t)

/-- The five forms of BSR and JSR, with their length, their target, and the state after their operands have been read
(R306 to R310). -/
def CallForm (s : State) (i : Instr) (len : Nat) (target : Addr) (s1 : State) : Prop :=
  (∃ p : BitVec 8, i = .bsr8 p ∧ len = 2 ∧ target = s.pc + 2 + p.signExtend 24 ∧ s1 = s) ∨
  (∃ p : BitVec 16, i = .bsr16 p ∧ len = 4 ∧ target = s.pc + 4 + p.signExtend 24 ∧ s1 = s) ∨
  (∃ n, i = .jsrInd n ∧ len = 2 ∧ target = ea24 (s.reg32 n) ∧ s1 = s) ∨
  (∃ a, i = .jsrAbs24 a ∧ len = 4 ∧ target = a ∧ s1 = s) ∨
  (∃ aa v, i = .jsrMemInd aa ∧ len = 2 ∧ target = ea24 v ∧ s.readLong (aa.zeroExtend 24) = .ok (v, s1))

/-! ### Block transfer (R350 to R352) -/

/-- The address of byte `j` of the source of a block transfer. -/
def sourceAt (s : State) (j : Nat) : Addr := ea24 (s.reg32 5) + BitVec.ofNat 24 j

/-- The address of byte `j` of the destination of a block transfer. -/
def destinationAt (s : State) (j : Nat) : Addr := ea24 (s.reg32 6) + BitVec.ofNat 24 j

/-- A block of `n` bytes in memory has been moved, one byte at a time in rising order, from where ER5 to where ER6
pointed, and both have advanced by `n`. The blocks may overlap: a source byte that an earlier byte of the destination
has overwritten is moved as it then was (R350). -/
structure MovedBlock (n : Nat) (s t : State) : Prop where
  moved : ∀ j, j < n → (∀ i, i < j → phys s.mcuMode (sourceAt s j) ≠ phys s.mcuMode (destinationAt s i)) →
    t.peekByte (destinationAt s j) = s.peekByte (sourceAt s j)
  overlapping : ∀ i j, i < j → j < n → phys s.mcuMode (sourceAt s j) = phys s.mcuMode (destinationAt s i) →
    t.peekByte (destinationAt s j) = t.peekByte (destinationAt s i)
  outside : SameOutside s t (ea24 (s.reg32 6)) n
  source : t.reg32 5 = s.reg32 5 + BitVec.ofNat 32 n
  destination : t.reg32 6 = s.reg32 6 + BitVec.ofNat 32 n
  others : ∀ m : RegNum, m ≠ 4 → m ≠ 5 → m ≠ 6 → t.reg32 m = s.reg32 m
  ccr : t.ccr = s.ccr
  inputs : SameInputs s t
  control : SameControl s t
  devices : SameDevices s t

/-- The source bytes are memory, the destination bytes are RAM that can be stored to. The two may overlap. -/
def BlockReady (n : Nat) (s : State) : Prop :=
  s.resDuring = none ∧ s.mem.wf = true ∧ (∀ j, j < n → (s.locate (sourceAt s j)).isMemory = true) ∧
  RamAt s n (ea24 (s.reg32 6)) ∧ Storable s 8 n (ea24 (s.reg32 6))

end Sys2Proof.Machine
end

