-- ==== Sys2Proof/Certificates/Slice0/Obligations.lean ====
section
/-! DEFINITION. The statements for the provers. The terms they are written in stand in Sys2Proof/Safety.lean. -/

open Sys2Proof Sys2Proof.Machine

/-! ### Encoding and fetching -/

/-- Decoding the bytes of a well-formed instruction gives it back, whatever bytes follow: every operand of every row
at every value its field admits (R111 to R123). The encodings are PRESUMED, log 5. -/
def Obligations.DecodeOfEncode : Prop :=
  ∀ (i : Instr) (rest : List Byte), i.wellFormed = true → decode (encode i ++ rest) = .ok (i, rest)

/-- Bytes that decode are the encoding of what they decode to: every fixed bit is part of the match (R125, R126), and
a word has one meaning. The encodings are PRESUMED, log 5. A word of MOV with @ER7+ or @-ER7 reads as POP or PUSH by
the model's choice, log 8. -/
def Obligations.EncodeOfDecode : Prop :=
  ∀ (bytes rest : List Byte) (i : Instr), decode bytes = .ok (i, rest) →
    encode i ++ rest = bytes ∧ i.wellFormed = true

/-- A few words of the spec's own examples decode to the instructions they stand for. The encodings are PRESUMED, log
5. -/
def Obligations.DecodeWords : Prop :=
  decode [0x0C, 0x81] = .ok (.movBRegReg (.l 0) (.h 1), []) ∧
  decode [0x79, 0x09, 0x80, 0x00] = .ok (.movWImm 0x8000 (.e 1), []) ∧
  decode [0x01, 0x00, 0x78, 0x20, 0x6B, 0x23, 0x00, 0x0F, 0xEF, 0x10] = .ok (.movLLoadDisp24 0x0FEF10 2 3, []) ∧
  decode [0x0A, 0x92] = .ok (.addLReg 1 2, []) ∧
  decode [0x01, 0xF0, 0x66, 0x10] = .ok (.andLReg 1 0, []) ∧
  decode [0x12, 0x98] = .ok (.rotlW (.e 0), []) ∧
  decode [0x7D, 0x20, 0x60, 0x90] = .ok (.bsetRegInd (.l 1) 2, []) ∧
  decode [0x58, 0x70, 0xEF, 0xFC] = .ok (.beq (.d16 0xEFFC), []) ∧
  decode [0x57, 0x30] = .ok (.trapa 3, []) ∧
  decode [0x7B, 0xD4, 0x59, 0x8F] = .ok (.eepmovW, [])

/-- Where the bytes from PC on are those of a well-formed instruction, and no device answers for them, the fetch gives that
instruction; from memory it changes nothing (R79). That a fetch reads exactly the words of the instruction, with the side
effects of those reads, is the model's choice, log 21. -/
def Obligations.FetchReadsMemory : Prop :=
  ∀ (s : State) (i : Instr), i.wellFormed = true →
    (∀ k, k < (encode i).length →
      (s.locate (evenAddr s.pc + BitVec.ofNat 24 k)).isDevice = false ∧
      s.peekByte (evenAddr s.pc + BitVec.ofNat 24 k) = .ok ((encode i).getD k 0)) →
    ∃ s1, s.fetch = .ok (i, s1) ∧
      ((∀ k, k < (encode i).length → (s.locate (evenAddr s.pc + BitVec.ofNat 24 k)).isMemory = true) → s1 = s)

/-- When the machine runs a program, no pin asserts reset or standby and no interrupt is accepted: if the words at PC
decode, a step is `exec` of what they decode to, in the state after its words have been read, with the hold-off ended
(R460); if they are no row of the opcode table, or have a wrong fixed bit, they are refused (R125, R126); if they end too
early, the step stops as the read of the next word does. What a falling RES leaves to the end of the step is log 38, the
sampling of pins log 22, the words a fetch reads log 21, the refusal the decision D1, log 10. -/
def Obligations.StepRunsDecoded : Prop :=
  ∀ (s : State), s.pstate = .program → s.resLow = false → s.stbyLow = false → s.samplePins.accepted = none →
    let words := State.fetchWords (maxLength / 2) (evenAddr s.pc) s.samplePins
    (∀ i rest, decode words.1 = .ok (i, rest) →
      step s = settle (exec i
        { State.afterFetch ((words.1.length - rest.length) / 2) (evenAddr s.pc) s.samplePins with
          irqInhibit := false })) ∧
    (∀ e, e ≠ .truncated → decode words.1 = .error e → step s = .refused .undefinedInstruction) ∧
    (∀ why, decode words.1 = .error .truncated → words.2 = some why → step s = settle (finish (.error why))) ∧
    (∀ u : State, u.resDuring = none → settle (.next u) = .next u) ∧
    (∀ (u : State) (k : Nat), u.resDuring = some k →
      settle (.next u) = .next { u with resLow := true, resDuring := none })

/-! ### Reset, invariant, registers -/

/-- The values the spec gives for reset (R60, R430), in memory with nothing placed. That unlisted memory reads H'00 is
the model's choice, log 2; nothing here rests on that value. -/
def Obligations.ResetValues : Prop :=
  State.reset.flag .I = true ∧ State.reset.syscr = 0x0B#8 ∧ State.reset.iscr = 0#8 ∧ State.reset.ier = 0#8 ∧
  State.reset.isr = 0#8 ∧ State.reset.ipra = 0#8 ∧ State.reset.iprb = 0#8 ∧
  State.reset.readReg .mdcr = 0xC0#8 ||| BitVec.ofNat 8 (McuMode.number State.reset.mcuMode) ∧
  State.reset.irqInhibit = true ∧ State.reset.pstate = .program ∧
  ∃ v t, State.reset.readLong 0 = .ok (v, t) ∧ State.reset.pc = ea24 v

/-- The machine after reset meets the invariant. The invariant includes an even PC, log 9, and the record of ISR
reads, log 23. -/
def Obligations.ResetInvariant : Prop := Inv State.reset

/-- Every step keeps the invariant, from every state that meets it. PC bit 0 stored as 0 is D3, log 9; the record of
ISR reads is log 23; the module requests are log 25. -/
def Obligations.StepKeepsInvariant : Prop :=
  ∀ s t : State, Inv s → step s = .next t → Inv t

/-- "ERn, En, Rn, RnH and RnL are views of one 32-bit cell", and "A write to a view changes exactly the bits of that
view and no other bit of ERn" (R23), nor any other register. That a write changes only its view is the spec's own
inference from R21 and R22. -/
def Obligations.RegisterViews : Prop :=
  ∀ (s : State) (n m : RegNum) (b : Byte) (w : Word) (i : Nat), i < 32 →
    s.reg32 n = s.reg16 (.e n) ++ s.reg8 (.h n) ++ s.reg8 (.l n) ∧
    s.reg16 (.r n) = s.reg8 (.h n) ++ s.reg8 (.l n) ∧
    ((s.setReg8 (.l n) b).reg32 m).getLsbD i =
      (if m = n ∧ i < 8 then b.getLsbD i else (s.reg32 m).getLsbD i) ∧
    ((s.setReg8 (.h n) b).reg32 m).getLsbD i =
      (if m = n ∧ 8 ≤ i ∧ i < 16 then b.getLsbD (i - 8) else (s.reg32 m).getLsbD i) ∧
    ((s.setReg16 (.r n) w).reg32 m).getLsbD i =
      (if m = n ∧ i < 16 then w.getLsbD i else (s.reg32 m).getLsbD i) ∧
    ((s.setReg16 (.e n) w).reg32 m).getLsbD i =
      (if m = n ∧ 16 ≤ i then w.getLsbD (i - 16) else (s.reg32 m).getLsbD i)

/-! ### Memory and control registers -/

/-- A byte written to RAM reads back, and every byte at another physical address reads as before; reading a byte of memory
or of a register but ISR has no side effect (R75, R100). A longword is four bytes at an even address, most significant
first (R74, R77). A byte access to a device of the platform is one call, a word access to a wide one is one call: the host
supplies what a read gives (R98, R100, R461). That a longword is two word accesses, upper word first, is general knowledge
of the spec (R99), log 35; the calls of devices are log 17. -/
def Obligations.MemoryAccess : Prop :=
  (∀ (s : State) (a : Addr) (v : Byte), s.mem.wf = true → (s.locate a).isRam = true →
    ∃ t, s.writeByte a v = .ok t ∧ t.peekByte a = .ok v ∧ SameOutside s t a 1 ∧ SameControl s t ∧
      SameDevices s t) ∧
  (∀ (s : State) (a : Addr) (v : Byte), s.peekByte a = .ok v → (s.locate a).isDevice = false →
    s.locate a ≠ .reg .isr → s.readByte a = .ok (v, s)) ∧
  (∀ (s : State) (a : Addr) (v : Long), HoldsLong s (evenAddr a) v → s.readLong a = .ok (v, s)) ∧
  (∀ (s : State) (a : Addr) (v : Long), s.resDuring = none → s.mem.wf = true → RamAt s 4 (evenAddr a) →
    ∃ t, s.storeLong 0 a v = .ok t ∧ HoldsLong t (evenAddr a) v ∧ SameOutside s t (evenAddr a) 4 ∧ SameControl s t ∧
      SameDevices s t) ∧
  (∀ (s : State) (a : Addr) (wide : Bool) (v : Word) (rest : List Word), s.locate a = .device wide →
    s.deviceAnswers = v :: rest →
    ∃ t, s.readByte a = .ok (v.extractLsb' 0 8, t) ∧ t.deviceAnswers = rest ∧
      t.deviceCalls = ⟨phys s.mcuMode a, 1, false, (v.extractLsb' 0 8).zeroExtend 16⟩ :: s.deviceCalls ∧
      SameCells s t ∧ SameControl s t) ∧
  (∀ (s : State) (a : Addr) (wide : Bool) (v : Byte), s.locate a = .device wide →
    ∃ t, s.writeByte a v = .ok t ∧ CalledDevice a 1 (v.zeroExtend 16) s t) ∧
  (∀ (s : State) (a : Addr) (v w : Word) (rest : List Word), s.wideDevice (evenAddr a) = true →
    s.deviceAnswers = v :: rest →
    (∃ t, s.readWord a = .ok (v, t) ∧ t.deviceAnswers = rest ∧
      t.deviceCalls = ⟨phys s.mcuMode (evenAddr a), 2, false, v⟩ :: s.deviceCalls ∧
      SameCells s t ∧ SameControl s t) ∧
    (s.resDuring = none → ∃ t, s.storeWord 0 a w = .ok t ∧ CalledDevice (evenAddr a) 2 w s t))

/-- A word or longword access starts at the even address, whatever bit 0 of the address, and gives no error for it; a word
access reads the byte there above the byte after it, and writes them so (R76). -/
def Obligations.WordAccess : Prop :=
  (∀ (s : State) (a : Addr), s.readWord a = s.readWord (evenAddr a)) ∧
  (∀ (s : State) (w : Nat) (a : Addr) (v : Word), s.storeWord w a v = s.storeWord w (evenAddr a) v) ∧
  (∀ (s : State) (a : Addr), s.readLong a = s.readLong (evenAddr a)) ∧
  (∀ (s : State) (w : Nat) (a : Addr) (v : Long), s.storeLong w a v = s.storeLong w (evenAddr a) v) ∧
  (∀ a : Addr, (evenAddr a).toNat = 2 * (a.toNat / 2)) ∧
  (∀ (s : State) (a : Addr) (h l : Byte), (s.locate (evenAddr a)).isDevice = false →
    s.peekByte (evenAddr a) = .ok h → s.peekByte (evenAddr a + 1) = .ok l →
    ∃ t, s.readWord a = .ok (h ++ l, t)) ∧
  (∀ (s : State) (a : Addr) (v : Word), s.resDuring = none → s.mem.wf = true → RamAt s 2 (evenAddr a) →
    ∃ t, s.storeWord 0 a v = .ok t ∧ t.peekByte (evenAddr a) = .ok (v.extractLsb' 8 8) ∧
      t.peekByte (evenAddr a + 1) = .ok (v.extractLsb' 0 8) ∧ SameOutside s t (evenAddr a) 2 ∧ SameControl s t)

/-- With RAME cleared, on-chip RAM reads H'FF and ignores writes in mode 7, and its addresses are external in the other
modes (R94), where the bytes of external RAM behind it are kept apart from its own, at cells of their own: the model's
choice, log 16. -/
def Obligations.DisabledRam : Prop :=
  ∀ (s : State) (a : Addr) (v : Byte), s.syscr.getLsbD 0 = false →
    topBase s.mcuMode + Product.ramStart s.product ≤ phys s.mcuMode a →
    phys s.mcuMode a < topBase s.mcuMode + 0xFF10 →
    (s.mcuMode = .mode7 → s.peekByte a = .ok 0xFF#8 ∧ s.writeByte a v = .ok s) ∧
    (s.mcuMode ≠ .mode7 → s.locate a = s.externalPlace (phys s.mcuMode a) (phys s.mcuMode a + behindRam))

/-- The map of R93, by mode and product. "In a 1-Mbyte mode the addresses a and a + H'100000 therefore name the same byte";
in a 16-Mbyte mode the address itself selects (R72). On-chip ROM reads as memory and never changes by a store; on-chip RAM,
while RAME is 1, reads and writes. Where nothing exists (in mode 7, and in the hole above a smaller product's ROM), and in
the reserved area of the H8/3020, an access stops (R93, R447, 93 U6): that a store to ROM is ignored and that the access is
a fault is the model's choice, log 14 and log 15. What is left outside mode 7, also H'FFFF10 to H'FFFF1B, is external
address space, RAM unless the platform says otherwise (R93, R97, 92 D6). From H'FFFF1C on there are internal I/O registers:
one that is none of the seven is what the platform supplies, and is refused where it supplies none (R92, R100, 92 D8).
The regions of the platform, and which of their cells are module registers, are log 17. -/
def Obligations.AddressMap : Prop :=
  ∀ (s : State) (a : Addr) (v : Byte),
    let p := phys s.mcuMode a
    let top := if s.mcuMode = .mode3 ∨ s.mcuMode = .mode6 then 0xFF0000 else 0x0F0000
    let rom := s.mcuMode = .mode5 ∨ s.mcuMode = .mode6 ∨ s.mcuMode = .mode7
    let romEnd := (match s.product with
      | .h83022 | .h83022Fztat => 0x40000
      | .h83021 => 0x30000
      | .h83020 => 0x20000)
    let ramStart := top + (if s.product = .h83020 then 0xEF10 else 0xDF10)
    let seven := [0xFFF1, 0xFFF2, 0xFFF4, 0xFFF5, 0xFFF6, 0xFFF8, 0xFFF9].map (top + ·)
    let stops (why : Stop) := s.peekByte a = .error why ∧ s.writeByte a v = .error why
    (s.mcuMode ≠ .mode3 → s.mcuMode ≠ .mode6 → p = a.toNat % 0x100000 ∧ s.locate (a + 0x100000#24) = s.locate a) ∧
    (s.mcuMode = .mode3 ∨ s.mcuMode = .mode6 → p = a.toNat) ∧
    (rom → p < romEnd → s.locate a = .rom p ∧ s.peekByte a = .ok (s.mem.read p) ∧ s.writeByte a v = .ok s) ∧
    (rom → romEnd ≤ p → p < 0x40000 → stops (.fault .unmapped)) ∧
    (s.syscr.getLsbD 0 = true → ramStart ≤ p → p < top + 0xFF10 →
      s.locate a = .ram p ∧ s.peekByte a = .ok (s.mem.read p) ∧
      s.writeByte a v = .ok { s with mem := s.mem.write p v }) ∧
    (s.product = .h83020 → top + 0xDF10 ≤ p → p < ramStart → stops (.fault .reservedArea)) ∧
    ((rom → 0x40000 ≤ p) → p < top + 0xDF10 ∨ (top + 0xFF10 ≤ p ∧ p < top + 0xFF1C) →
      (s.mcuMode = .mode7 → stops (.fault .unmapped)) ∧
      (s.mcuMode ≠ .mode7 → s.locate a = s.externalPlace p p ∧ (s.platform = [] → s.locate a = .ram p))) ∧
    (∀ key, s.externalPlace p key = (match s.platformKind p with
      | none | some .ram => .ram key
      | some .rom => .rom key
      | some .writeOnly => .writeOnly key
      | some (.device _) => .device false)) ∧
    (top + 0xFF1C ≤ p → p ∉ seven →
      (s.platformRegion p = none → stops (.refusal .ioRegister)) ∧
      (∀ r, s.platformRegion p = some r →
        s.locate a = (match r.kind with
          | .ram => .ram p
          | .rom => .rom p
          | .writeOnly => .writeOnly p
          | .device wide => .device wide) ∧
        ∀ ports, s.moduleCell ports p = (r.kind.isCell && (ports || !r.ioPort)))) ∧
    (∀ ports k, k < top + 0xFF1C ∨ top + 0x10000 ≤ k ∨ k ∈ seven → s.moduleCell ports k = false)

/-- MDCR reads as H'C0 with the mode and ignores writes (R42); SYSCR stores what is written but for bit 1, which reads
1 (R43, R48); ISCR, IER, IPRA and IPRB store what is written (R50 to R54). A write changes the register written and
nothing else: every other register, every cell of memory, the calls and answers of devices and every other field of the
state stay. That reserved bits of ISCR, IER, IPRA and IPRB are stored is the model's choice, log 29. -/
def Obligations.ControlRegisters : Prop :=
  ∀ (s : State) (v : Byte),
    s.peekByte 0xFFFFF1#24 = .ok (0xC0#8 ||| BitVec.ofNat 8 (McuMode.number s.mcuMode)) ∧
    s.writeByte 0xFFFFF1#24 v = .ok s ∧
    (∃ w, s.writeByte 0xFFFFF2#24 v = .ok { s with syscr := w } ∧
      (∀ i, i < 8 → w.getLsbD i = (decide (i = 1) || v.getLsbD i)) ∧
      ({ s with syscr := w } : State).peekByte 0xFFFFF2#24 = .ok w) ∧
    (∀ (a : Addr) (t : State),
      (a = 0xFFFFF4#24 ∧ t = { s with iscr := v }) ∨ (a = 0xFFFFF5#24 ∧ t = { s with ier := v }) ∨
        (a = 0xFFFFF8#24 ∧ t = { s with ipra := v }) ∨ (a = 0xFFFFF9#24 ∧ t = { s with iprb := v }) →
      s.writeByte a v = .ok t ∧ t.peekByte a = .ok v)

/-- A flag of ISR is cleared by reading it as 1 and then writing 0; a write of 1, or a write of 0 to a flag that was
not read as 1, leaves it as it was (R55). A read gives the flags; a read and a write change the flags and the record of
what has been read, and nothing else: every other register, every cell of memory, the calls and answers of devices and
every other field of the state stay. The protocol is PRESUMED by the spec and its record is the model's, log 23. -/
def Obligations.IsrClearing : Prop :=
  ∀ (s : State) (w : Byte),
    (∃ x y, s.writeByte 0xFFFFF6#24 w = .ok { s with isr := x, isrRead := y } ∧ ∀ i, i < 8 →
      x.getLsbD i = (if s.isrRead.getLsbD i = true ∧ w.getLsbD i = false then false else s.isr.getLsbD i)) ∧
    (s.isrRead = 0#8 →
      s.writeByte 0xFFFFF6#24 w = .ok s ∧
      ∃ t, s.readByte 0xFFFFF6#24 = .ok (s.isr, t) ∧ t = { s with isrRead := s.isr } ∧
        t.writeByte 0xFFFFF6#24 w = .ok { s with isr := s.isr &&& w, isrRead := s.isr &&& w })

/-! ### Addressing modes and data transfer -/

/-- `@ERn`: "EA = ea24(ER[n])" (R83); `@(d:16,ERn)` and `@(d:24,ERn)`: "the lower 24 bits of the sum" (R84); absolute:
8 bits under H'FFFF, 16 bits sign-extended, 24 bits as they stand (R87). These leave ERn alone. `@ERn+` and `@-ERn`: the
lower 24 bits of the register before, and of the register less the operand size (R85, R86). -/
def Obligations.EffectiveAddresses : Prop :=
  ∀ (s : State) (nb : Nat) (n : RegNum) (d : BitVec 16) (e : BitVec 24) (b : BitVec 8),
    (s.ea nb (.ind n)).toNat = (s.reg32 n).toNat % 2 ^ 24 ∧
    ((s.ea nb (.disp16 d n)).toNat : Int) = ((s.reg32 n).toNat + d.toInt) % 2 ^ 24 ∧
    (s.ea nb (.disp24 e n)).toNat = ((s.reg32 n).toNat + e.toNat) % 2 ^ 24 ∧
    (s.ea nb (.abs8 b)).toNat = 0xFFFF00 + b.toNat ∧
    ((s.ea nb (.abs16 d)).toNat : Int) = d.toInt % 2 ^ 24 ∧
    s.ea nb (.abs24 e) = e ∧
    (∀ m, m = .ind n ∨ m = .disp16 d n ∨ m = .disp24 e n ∨ m = .abs8 b ∨ m = .abs16 d ∨ m = .abs24 e →
      s.preDecrement nb m = s ∧ s.postIncrement nb m = s) ∧
    (s.ea nb (.postInc n)).toNat = (s.reg32 n).toNat % 2 ^ 24 ∧
    ((s.ea nb (.preDec n)).toNat : Int) = ((s.reg32 n).toNat - (nb : Int)) % 2 ^ 24

/-- MOV between registers and of immediates, all sizes: the value arrives, N and Z describe it, V is 0 (R150 to R156).
The flag formulas are PRESUMED, log 6. -/
def Obligations.MoveRegister : Prop :=
  ∀ (s : State) (b : Byte) (w : Word) (l : Long) (p q : Reg8) (x y : Reg16) (m n : RegNum),
    ResultB (.movBImm b q) 2 s q b none (some b.msb) (some (b == 0)) (some false) none ∧
    ResultW (.movWImm w y) 4 s y w none (some w.msb) (some (w == 0)) (some false) none ∧
    ResultL (.movLImm l n) 6 s n l none (some l.msb) (some (l == 0)) (some false) none ∧
    ResultB (.movBRegReg p q) 2 s q (s.reg8 p) none (some (s.reg8 p).msb) (some (s.reg8 p == 0)) (some false) none ∧
    ResultW (.movWRegReg x y) 2 s y (s.reg16 x) none (some (s.reg16 x).msb) (some (s.reg16 x == 0)) (some false)
      none ∧
    ResultL (.movLRegReg m n) 2 s n (s.reg32 m) none (some (s.reg32 m).msb) (some (s.reg32 m == 0)) (some false) none

/-- MOV.B from memory in its seven forms (R157). The flag formulas are PRESUMED, log 6. A register that is both data
and address is excluded here and stated in RefusedMoves, log 12. What a read does is stated in MemoryAccess; the calls
of a device are log 17. -/
def Obligations.LoadByte : Prop :=
  ∀ (s : State) (n : RegNum) (d : BitVec 16) (e : BitVec 24) (b : BitVec 8) (rd : Reg8),
    LoadsB (.movBLoadInd n rd) 2 (.ind n) rd s ∧ LoadsB (.movBLoadDisp16 d n rd) 4 (.disp16 d n) rd s ∧
    LoadsB (.movBLoadDisp24 e n rd) 8 (.disp24 e n) rd s ∧ LoadsB (.movBLoadPostInc n rd) 2 (.postInc n) rd s ∧
    LoadsB (.movBLoadAbs8 b rd) 2 (.abs8 b) rd s ∧ LoadsB (.movBLoadAbs16 d rd) 4 (.abs16 d) rd s ∧
    LoadsB (.movBLoadAbs24 e rd) 6 (.abs24 e) rd s

/-- MOV.W from memory in its six forms, and POP.W (R158, R166). The flag formulas are PRESUMED, log 6. A register that
is both data and address is excluded here and stated in RefusedMoves, log 12. That a word is read byte by byte from
registers is log 35; the calls of a device are log 17. -/
def Obligations.LoadWord : Prop :=
  ∀ (s : State) (n : RegNum) (d : BitVec 16) (e : BitVec 24) (rd : Reg16),
    LoadsW (.movWLoadInd n rd) 2 (.ind n) rd s ∧ LoadsW (.movWLoadDisp16 d n rd) 4 (.disp16 d n) rd s ∧
    LoadsW (.movWLoadDisp24 e n rd) 8 (.disp24 e n) rd s ∧ LoadsW (.movWLoadPostInc n rd) 2 (.postInc n) rd s ∧
    LoadsW (.movWLoadAbs16 d rd) 4 (.abs16 d) rd s ∧ LoadsW (.movWLoadAbs24 e rd) 6 (.abs24 e) rd s ∧
    LoadsW (.popW rd) 2 (.postInc 7) rd s

/-- MOV.L from memory in its six forms, and POP.L (R159, R167). The flag formulas are PRESUMED, log 6. A register that
is both data and address is excluded here and stated in RefusedMoves, log 12. That a longword is two word reads, and a
word of registers two byte reads, is log 35; the calls of a device are log 17. -/
def Obligations.LoadLong : Prop :=
  ∀ (s : State) (n : RegNum) (d : BitVec 16) (e : BitVec 24) (rd : RegNum),
    LoadsL (.movLLoadInd n rd) 4 (.ind n) rd s ∧ LoadsL (.movLLoadDisp16 d n rd) 6 (.disp16 d n) rd s ∧
    LoadsL (.movLLoadDisp24 e n rd) 10 (.disp24 e n) rd s ∧ LoadsL (.movLLoadPostInc n rd) 4 (.postInc n) rd s ∧
    LoadsL (.movLLoadAbs16 d rd) 6 (.abs16 d) rd s ∧ LoadsL (.movLLoadAbs24 e rd) 8 (.abs24 e) rd s ∧
    LoadsL (.popL rd) 4 (.postInc 7) rd s

/-- MOV.B to memory in its seven forms (R160). The flag formulas are PRESUMED, log 6. What counts as the instruction
stream is the model's choice, log 13, that a store to on-chip ROM completes and changes nothing is log 14, the call of a
device log 17; a register that is both data and address is stated in RefusedMoves, log 12. What RES going low leaves is
log 38; that module registers which the platform supplies as cells take free values then is log 17. -/
def Obligations.StoreByte : Prop :=
  ∀ (s : State) (n : RegNum) (d : BitVec 16) (e : BitVec 24) (b : BitVec 8) (rs : Reg8),
    StoresB (.movBStoreInd rs n) 2 (.ind n) rs s ∧ StoresB (.movBStoreDisp16 rs d n) 4 (.disp16 d n) rs s ∧
    StoresB (.movBStoreDisp24 rs e n) 8 (.disp24 e n) rs s ∧ StoresB (.movBStorePreDec rs n) 2 (.preDec n) rs s ∧
    StoresB (.movBStoreAbs8 rs b) 2 (.abs8 b) rs s ∧ StoresB (.movBStoreAbs16 rs d) 4 (.abs16 d) rs s ∧
    StoresB (.movBStoreAbs24 rs e) 6 (.abs24 e) rs s

/-- MOV.W to memory in its six forms, and PUSH.W (R161, R168). The flag formulas are PRESUMED, log 6. What counts as
the instruction stream is the model's choice, log 13, that a store to on-chip ROM completes and changes nothing is log 14,
that the bytes go to registers one by one is log 35, the call of a device log 17; a register that is both data and address
is stated in RefusedMoves, log 12. What RES going low between bus cycles leaves, where a word to on-chip memory is one bus
cycle (R99), is log 38; that module registers which the platform supplies as cells take free values then is log 17. -/
def Obligations.StoreWord : Prop :=
  ∀ (s : State) (n : RegNum) (d : BitVec 16) (e : BitVec 24) (rs : Reg16),
    StoresW (.movWStoreInd rs n) 2 (.ind n) rs s ∧ StoresW (.movWStoreDisp16 rs d n) 4 (.disp16 d n) rs s ∧
    StoresW (.movWStoreDisp24 rs e n) 8 (.disp24 e n) rs s ∧ StoresW (.movWStorePreDec rs n) 2 (.preDec n) rs s ∧
    StoresW (.movWStoreAbs16 rs d) 4 (.abs16 d) rs s ∧ StoresW (.movWStoreAbs24 rs e) 6 (.abs24 e) rs s ∧
    StoresW (.pushW rs) 2 (.preDec 7) rs s

/-- MOV.L to memory in its six forms, and PUSH.L (R162, R169). The flag formulas are PRESUMED, log 6. What counts as
the instruction stream is the model's choice, log 13, that a store to on-chip ROM completes and changes nothing is log 14,
that the bytes go to registers one by one is log 35, the call of a device log 17; a register that is both data and address
is stated in RefusedMoves, log 12. What RES going low between bus cycles leaves, where a word to on-chip memory is one bus
cycle (R99), is log 38; that module registers which the platform supplies as cells take free values then is log 17. -/
def Obligations.StoreLong : Prop :=
  ∀ (s : State) (n : RegNum) (d : BitVec 16) (e : BitVec 24) (rs : RegNum),
    StoresL (.movLStoreInd rs n) 4 (.ind n) rs s ∧ StoresL (.movLStoreDisp16 rs d n) 6 (.disp16 d n) rs s ∧
    StoresL (.movLStoreDisp24 rs e n) 10 (.disp24 e n) rs s ∧ StoresL (.movLStorePreDec rs n) 4 (.preDec n) rs s ∧
    StoresL (.movLStoreAbs16 rs d) 6 (.abs16 d) rs s ∧ StoresL (.movLStoreAbs24 rs e) 8 (.abs24 e) rs s ∧
    StoresL (.pushL rs) 4 (.preDec 7) rs s

/-- The forms whose data register is a part of the address register they modify are refused (R163), and so are MOVFPE
and MOVTPE (R164, R165), on every operand. The refusals are the decisions D2 and D5, log 11 and log 12. -/
def Obligations.RefusedMoves : Prop :=
  ∀ (s : State) (n : RegNum) (aa : BitVec 16) (p : Reg8) (x : Reg16),
    (p.num = n → exec (.movBLoadPostInc n p) s = .refused .addressRegisterIsData ∧
      exec (.movBStorePreDec p n) s = .refused .addressRegisterIsData) ∧
    (x.num = n → exec (.movWLoadPostInc n x) s = .refused .addressRegisterIsData ∧
      exec (.movWStorePreDec x n) s = .refused .addressRegisterIsData) ∧
    exec (.movLLoadPostInc n n) s = .refused .addressRegisterIsData ∧
    exec (.movLStorePreDec n n) s = .refused .addressRegisterIsData ∧
    (x.num = 7 → exec (.popW x) s = .refused .addressRegisterIsData ∧
      exec (.pushW x) s = .refused .addressRegisterIsData) ∧
    exec (.popL 7) s = .refused .addressRegisterIsData ∧ exec (.pushL 7) s = .refused .addressRegisterIsData ∧
    exec (.movfpe aa p) s = .refused .cannotBeUsed ∧ exec (.movtpe p aa) s = .refused .cannotBeUsed

/-- A store of any instruction whose bytes reach into the storing instruction or the four bytes after it is refused,
whatever place it is (R104, R445): MOV, PUSH, STC, the bit instructions, the frames of BSR, JSR and TRAPA, and a byte of
EEPMOV, whose earlier bytes have been moved. The refusal is the decision D11; its exact window, and that it is measured
from PC, are the model's choice, log 13. -/
def Obligations.StreamStoreRefused : Prop :=
  ∀ (s : State) (n : RegNum) (d : BitVec 16) (e : BitVec 24) (b : BitVec 8) (k : BitVec 3) (vec : BitVec 2)
    (p : Reg8) (x : Reg16) (q : RegNum) (i : Instr) (len : Nat) (m : Mode),
    ((i = .movBStoreInd p n ∧ len = 2 ∧ m = .ind n) ∨ (i = .movBStoreDisp16 p d n ∧ len = 4 ∧ m = .disp16 d n) ∨
        (i = .movBStoreDisp24 p e n ∧ len = 8 ∧ m = .disp24 e n) ∨
        (i = .movBStorePreDec p n ∧ len = 2 ∧ m = .preDec n ∧ p.num ≠ n) ∨
        (i = .movBStoreAbs8 p b ∧ len = 2 ∧ m = .abs8 b) ∨ (i = .movBStoreAbs16 p d ∧ len = 4 ∧ m = .abs16 d) ∨
        (i = .movBStoreAbs24 p e ∧ len = 6 ∧ m = .abs24 e) →
      HitsStream len 1 (s.ea 1 m) s → exec i s = .refused .storeIntoInstructionStream) ∧
    ((i = .movWStoreInd x n ∧ len = 2 ∧ m = .ind n) ∨ (i = .movWStoreDisp16 x d n ∧ len = 4 ∧ m = .disp16 d n) ∨
        (i = .movWStoreDisp24 x e n ∧ len = 8 ∧ m = .disp24 e n) ∨
        (i = .movWStorePreDec x n ∧ len = 2 ∧ m = .preDec n ∧ x.num ≠ n) ∨
        (i = .pushW x ∧ len = 2 ∧ m = .preDec 7 ∧ x.num ≠ 7) ∨
        (i = .movWStoreAbs16 x d ∧ len = 4 ∧ m = .abs16 d) ∨ (i = .movWStoreAbs24 x e ∧ len = 6 ∧ m = .abs24 e) ∨
        (i = .stcInd n ∧ len = 4 ∧ m = .ind n) ∨ (i = .stcDisp16 d n ∧ len = 6 ∧ m = .disp16 d n) ∨
        (i = .stcDisp24 e n ∧ len = 10 ∧ m = .disp24 e n) ∨ (i = .stcPreDec n ∧ len = 4 ∧ m = .preDec n) ∨
        (i = .stcAbs16 d ∧ len = 6 ∧ m = .abs16 d) ∨ (i = .stcAbs24 e ∧ len = 8 ∧ m = .abs24 e) →
      HitsStream len 2 (evenAddr (s.ea 2 m)) s → exec i s = .refused .storeIntoInstructionStream) ∧
    ((i = .movLStoreInd q n ∧ len = 4 ∧ m = .ind n) ∨ (i = .movLStoreDisp16 q d n ∧ len = 6 ∧ m = .disp16 d n) ∨
        (i = .movLStoreDisp24 q e n ∧ len = 10 ∧ m = .disp24 e n) ∨
        (i = .movLStorePreDec q n ∧ len = 4 ∧ m = .preDec n ∧ q ≠ n) ∨
        (i = .pushL q ∧ len = 4 ∧ m = .preDec 7 ∧ q ≠ 7) ∨
        (i = .movLStoreAbs16 q d ∧ len = 6 ∧ m = .abs16 d) ∨ (i = .movLStoreAbs24 q e ∧ len = 8 ∧ m = .abs24 e) →
      HitsStream len 4 (evenAddr (s.ea 4 m)) s → exec i s = .refused .storeIntoInstructionStream) ∧
    (i = .bsetImmInd k n ∨ i = .bsetRegInd p n ∨ i = .bclrImmInd k n ∨ i = .bclrRegInd p n ∨ i = .bnotImmInd k n ∨
        i = .bnotRegInd p n ∨ i = .bstInd k n ∨ i = .bistInd k n →
      HitsStream 4 1 (ea24 (s.reg32 n)) s → exec i s = .refused .storeIntoInstructionStream) ∧
    (i = .bsetImmAbs8 k b ∨ i = .bsetRegAbs8 p b ∨ i = .bclrImmAbs8 k b ∨ i = .bclrRegAbs8 p b ∨
        i = .bnotImmAbs8 k b ∨ i = .bnotRegAbs8 p b ∨ i = .bstAbs8 k b ∨ i = .bistAbs8 k b →
      HitsStream 4 1 (0xFFFF#16 ++ b) s → exec i s = .refused .storeIntoInstructionStream) ∧
    (∀ target s1, CallForm s i len target s1 → HitsStream len 4 (frameAddr s) s →
      exec i s = .refused .storeIntoInstructionStream) ∧
    (HitsStream 2 4 (frameAddr s) s → exec (.trapa vec) s = .refused .storeIntoInstructionStream) ∧
    (∀ j, s.nmiDuringTransfer = none → BlockReady j s → (s.locate (sourceAt s j)).isMemory = true →
      HitsStream 4 1 (destinationAt s j) s →
      (j < (s.reg8 (.l 4)).toNat → exec .eepmovB s = .refused .storeIntoInstructionStream) ∧
      (j < (s.reg16 (.r 4)).toNat → exec .eepmovW s = .refused .storeIntoInstructionStream))

/-! ### Arithmetic -/

/-- ADD and SUB, all forms and sizes: the result modulo 2^n, and H, N, Z, V, C of the exact sums (R33 to R38, R180 to
R182). The flag formulas are PRESUMED, log 6. -/
def Obligations.AddAndSubtract : Prop :=
  ∀ (s : State) (b : Byte) (w : Word) (l : Long) (p q : Reg8) (x y : Reg16) (m n : RegNum),
    (∀ i u, (i = .addBImm b q ∧ u = b) ∨ (i = .addBReg p q ∧ u = s.reg8 p) →
      let r := sumOf (s.reg8 q) u false
      ResultB i 2 s q r (some (addH (s.reg8 q) u false)) (some r.msb) (some (r == 0))
        (some (addV (s.reg8 q) u false r)) (some (addC (s.reg8 q) u false))) ∧
    (∀ i len u, (i = .addWImm w y ∧ len = 4 ∧ u = w) ∨ (i = .addWReg x y ∧ len = 2 ∧ u = s.reg16 x) →
      let r := sumOf (s.reg16 y) u false
      ResultW i len s y r (some (addH (s.reg16 y) u false)) (some r.msb) (some (r == 0))
        (some (addV (s.reg16 y) u false r)) (some (addC (s.reg16 y) u false))) ∧
    (∀ i len u, (i = .addLImm l n ∧ len = 6 ∧ u = l) ∨ (i = .addLReg m n ∧ len = 2 ∧ u = s.reg32 m) →
      let r := sumOf (s.reg32 n) u false
      ResultL i len s n r (some (addH (s.reg32 n) u false)) (some r.msb) (some (r == 0))
        (some (addV (s.reg32 n) u false r)) (some (addC (s.reg32 n) u false))) ∧
    (let r := differenceOf (s.reg8 q) (s.reg8 p) false
     ResultB (.subBReg p q) 2 s q r (some (subH (s.reg8 q) (s.reg8 p) false)) (some r.msb) (some (r == 0))
       (some (subV (s.reg8 q) (s.reg8 p) false r)) (some (subC (s.reg8 q) (s.reg8 p) false))) ∧
    (∀ i len u, (i = .subWImm w y ∧ len = 4 ∧ u = w) ∨ (i = .subWReg x y ∧ len = 2 ∧ u = s.reg16 x) →
      let r := differenceOf (s.reg16 y) u false
      ResultW i len s y r (some (subH (s.reg16 y) u false)) (some r.msb) (some (r == 0))
        (some (subV (s.reg16 y) u false r)) (some (subC (s.reg16 y) u false))) ∧
    (∀ i len u, (i = .subLImm l n ∧ len = 6 ∧ u = l) ∨ (i = .subLReg m n ∧ len = 2 ∧ u = s.reg32 m) →
      let r := differenceOf (s.reg32 n) u false
      ResultL i len s n r (some (subH (s.reg32 n) u false)) (some r.msb) (some (r == 0))
        (some (subV (s.reg32 n) u false r)) (some (subC (s.reg32 n) u false)))

/-- CMP, all forms and sizes: the flags of SUB, and no register (R183). The flag formulas are PRESUMED, log 6. -/
def Obligations.Compare : Prop :=
  ∀ (s : State) (b : Byte) (w : Word) (l : Long) (p q : Reg8) (x y : Reg16) (m n : RegNum),
    (∀ i u, (i = .cmpBImm b q ∧ u = b) ∨ (i = .cmpBReg p q ∧ u = s.reg8 p) →
      let r := differenceOf (s.reg8 q) u false
      ResultFlags i 2 s (some (subH (s.reg8 q) u false)) (some r.msb) (some (r == 0))
        (some (subV (s.reg8 q) u false r)) (some (subC (s.reg8 q) u false))) ∧
    (∀ i len u, (i = .cmpWImm w y ∧ len = 4 ∧ u = w) ∨ (i = .cmpWReg x y ∧ len = 2 ∧ u = s.reg16 x) →
      let r := differenceOf (s.reg16 y) u false
      ResultFlags i len s (some (subH (s.reg16 y) u false)) (some r.msb) (some (r == 0))
        (some (subV (s.reg16 y) u false r)) (some (subC (s.reg16 y) u false))) ∧
    (∀ i len u, (i = .cmpLImm l n ∧ len = 6 ∧ u = l) ∨ (i = .cmpLReg m n ∧ len = 2 ∧ u = s.reg32 m) →
      let r := differenceOf (s.reg32 n) u false
      ResultFlags i len s (some (subH (s.reg32 n) u false)) (some r.msb) (some (r == 0))
        (some (subV (s.reg32 n) u false r)) (some (subC (s.reg32 n) u false)))

/-- NEG, all sizes: `C <- (D != 0)`, `H <- ((D & m) != 0)`, `V <- (D == 2^(n-1))` (R184). The flag formulas are
PRESUMED, log 6. -/
def Obligations.Negate : Prop :=
  ∀ (s : State) (q : Reg8) (y : Reg16) (n : RegNum),
    (let d := s.reg8 q
     ResultB (.negB q) 2 s q (-d) (some (decide (d.toNat % 16 ≠ 0))) (some (-d).msb) (some (d == 0))
       (some (d == 0x80#8)) (some (d != 0))) ∧
    (let d := s.reg16 y
     ResultW (.negW y) 2 s y (-d) (some (decide (d.toNat % 4096 ≠ 0))) (some (-d).msb) (some (d == 0))
       (some (d == 0x8000#16)) (some (d != 0))) ∧
    (let d := s.reg32 n
     ResultL (.negL n) 2 s n (-d) (some (decide (d.toNat % 268435456 ≠ 0))) (some (-d).msb) (some (d == 0))
       (some (d == 0x80000000#32)) (some (d != 0)))

/-- ADDX and SUBX: the old C enters, and "a nonzero result clears Z, a zero result leaves Z as it was" (R186, R187).
The flag formulas are PRESUMED, log 6. -/
def Obligations.AddAndSubtractWithCarry : Prop :=
  ∀ (s : State) (b : Byte) (p q : Reg8) (i : Instr) (u : Byte),
    ((i = .addxImm b q ∧ u = b) ∨ (i = .addxReg p q ∧ u = s.reg8 p) →
      let c := s.flag .C
      let r := sumOf (s.reg8 q) u c
      ResultB i 2 s q r (some (addH (s.reg8 q) u c)) (some r.msb) (some (s.flag .Z && (r == 0)))
        (some (addV (s.reg8 q) u c r)) (some (addC (s.reg8 q) u c))) ∧
    ((i = .subxImm b q ∧ u = b) ∨ (i = .subxReg p q ∧ u = s.reg8 p) →
      let c := s.flag .C
      let r := differenceOf (s.reg8 q) u c
      ResultB i 2 s q r (some (subH (s.reg8 q) u c)) (some r.msb) (some (s.flag .Z && (r == 0)))
        (some (subV (s.reg8 q) u c r)) (some (subC (s.reg8 q) u c)))

/-- INC and DEC by 1 or 2: N, Z and the signed overflow V; C and H unchanged (R188, R189). ADDS and SUBS by 1, 2 or 4:
all 32 bits, no flag (R190, R191). The flag formulas are PRESUMED, log 6. -/
def Obligations.IncrementAndDecrement : Prop :=
  ∀ (s : State) (k : IncStep) (m : AddsStep) (q : Reg8) (y : Reg16) (n : RegNum),
    let c : Nat := (match k with | .one => 1 | .two => 2)
    let e : Nat := (match m with | .one => 1 | .two => 2 | .four => 4)
    (let r := s.reg8 q + 1
     ResultB (.incB q) 2 s q r none (some r.msb) (some (r == 0))
       (some (decide (r.toInt ≠ (s.reg8 q).toInt + 1))) none) ∧
    (let r := s.reg8 q - 1
     ResultB (.decB q) 2 s q r none (some r.msb) (some (r == 0))
       (some (decide (r.toInt ≠ (s.reg8 q).toInt - 1))) none) ∧
    (let r := s.reg16 y + BitVec.ofNat 16 c
     ResultW (.incW k y) 2 s y r none (some r.msb) (some (r == 0))
       (some (decide (r.toInt ≠ (s.reg16 y).toInt + c))) none) ∧
    (let r := s.reg16 y - BitVec.ofNat 16 c
     ResultW (.decW k y) 2 s y r none (some r.msb) (some (r == 0))
       (some (decide (r.toInt ≠ (s.reg16 y).toInt - c))) none) ∧
    (let r := s.reg32 n + BitVec.ofNat 32 c
     ResultL (.incL k n) 2 s n r none (some r.msb) (some (r == 0))
       (some (decide (r.toInt ≠ (s.reg32 n).toInt + c))) none) ∧
    (let r := s.reg32 n - BitVec.ofNat 32 c
     ResultL (.decL k n) 2 s n r none (some r.msb) (some (r == 0))
       (some (decide (r.toInt ≠ (s.reg32 n).toInt - c))) none) ∧
    ResultL (.adds m n) 2 s n (BitVec.ofNat 32 ((s.reg32 n).toNat + e)) none none none none none ∧
    ResultL (.subs m n) 2 s n (BitVec.ofInt 32 ((s.reg32 n).toNat - (e : Int))) none none none none none

/-- MULXU and MULXS: the exact product of the lower half and the source; MULXU changes no flag, MULXS sets N and Z
(R192 to R195). The flag formulas are PRESUMED, log 6. -/
def Obligations.Multiply : Prop :=
  ∀ (s : State) (p : Reg8) (x y : Reg16) (n : RegNum),
    ResultW (.mulxuB p y) 2 s y (BitVec.ofNat 16 ((s.reg16 y).toNat % 256 * (s.reg8 p).toNat))
      none none none none none ∧
    ResultL (.mulxuW x n) 2 s n (BitVec.ofNat 32 ((s.reg16 (.r n)).toNat * (s.reg16 x).toNat))
      none none none none none ∧
    (let v := ((s.reg16 y).extractLsb' 0 8).toInt * (s.reg8 p).toInt
     ResultW (.mulxsB p y) 4 s y (BitVec.ofInt 16 v) none (some (decide (v < 0))) (some (decide (v = 0))) none none) ∧
    (let v := (s.reg16 (.r n)).toInt * (s.reg16 x).toInt
     ResultL (.mulxsW x n) 4 s n (BitVec.ofInt 32 v) none (some (decide (v < 0))) (some (decide (v = 0))) none none)

/-- DIVXU: it always completes, N and Z describe the divisor; where the quotient fits, quotient and remainder are
those of unsigned division (R198, R199, R204). The flags of the divisor, and which half holds the quotient, are PRESUMED,
log 6. Where the quotient does not fit the destination is a free value, log 19. -/
def Obligations.DivideUnsigned : Prop :=
  ∀ (s : State) (p : Reg8) (x y : Reg16) (n : RegNum),
    (∃ r : Word, ResultW (.divxuB p y) 2 s y r none (some (s.reg8 p).msb) (some (s.reg8 p == 0)) none none ∧
      ((s.reg8 p).toNat ≠ 0 → (s.reg16 y).toNat / (s.reg8 p).toNat < 256 →
        r.toNat % 256 = (s.reg16 y).toNat / (s.reg8 p).toNat ∧
        r.toNat / 256 = (s.reg16 y).toNat % (s.reg8 p).toNat)) ∧
    (∃ r : Long, ResultL (.divxuW x n) 2 s n r none (some (s.reg16 x).msb) (some (s.reg16 x == 0)) none none ∧
      ((s.reg16 x).toNat ≠ 0 → (s.reg32 n).toNat / (s.reg16 x).toNat < 65536 →
        r.toNat % 65536 = (s.reg32 n).toNat / (s.reg16 x).toNat ∧
        r.toNat / 65536 = (s.reg32 n).toNat % (s.reg16 x).toNat))

/-- DIVXS: it always completes and Z describes the divisor; where the quotient fits, division truncates toward zero
and the remainder has the dividend's sign; N is the quotient's sign where the rules fix it (R200, R201, R204). The flags,
the halves and the truncation are PRESUMED, log 6. The remaining cases are free values, log 19. -/
def Obligations.DivideSigned : Prop :=
  ∀ (s : State) (p : Reg8) (x y : Reg16) (n : RegNum),
    (let a := (s.reg16 y).toInt
     let d := (s.reg8 p).toInt
     ∃ (r : Word) (neg : Bool),
       ResultW (.divxsB p y) 4 s y r none (some neg) (some (s.reg8 p == 0)) none none ∧
       (d ≠ 0 → -128 ≤ a.tdiv d → a.tdiv d ≤ 127 →
         (r.extractLsb' 0 8).toInt = a.tdiv d ∧ (r.extractLsb' 8 8).toInt = a.tmod d) ∧
        (d ≠ 0 → a.tdiv d ≠ 0 → neg = decide (a.tdiv d < 0)) ∧
        (d ≠ 0 → a.tdiv d = 0 → (a < 0 ↔ d < 0) → neg = false)) ∧
    (let a := (s.reg32 n).toInt
     let d := (s.reg16 x).toInt
     ∃ (r : Long) (neg : Bool),
       ResultL (.divxsW x n) 4 s n r none (some neg) (some (s.reg16 x == 0)) none none ∧
       (d ≠ 0 → -32768 ≤ a.tdiv d → a.tdiv d ≤ 32767 →
         (r.extractLsb' 0 16).toInt = a.tdiv d ∧ (r.extractLsb' 16 16).toInt = a.tmod d) ∧
        (d ≠ 0 → a.tdiv d ≠ 0 → neg = decide (a.tdiv d < 0)) ∧
        (d ≠ 0 → a.tdiv d = 0 → (a < 0 ↔ d < 0) → neg = false))

/-- DAA and DAS always complete; N and Z follow the result, and nothing is said of H and V, nor of a byte outside the
tables (R196, R197). DAA after ADD.B or ADDX of two packed-BCD bytes gives their decimal sum, with the carry in, and its
carry; DAS after SUB.B, SUBX or NEG.B gives their decimal difference, with the borrow in, and its borrow. Outside the
tables, and in H and V, the values are free, log 20. The flag formulas are PRESUMED, log 6. -/
def Obligations.DecimalArithmetic : Prop :=
  (∀ (s : State) (rd : Reg8) (i : Instr), i = .daa rd ∨ i = .das rd →
    ∃ (r : Byte) (h v c : Bool), ResultB i 2 s rd r (some h) (some r.msb) (some (r == 0)) (some v) (some c)) ∧
  (∀ (s : State) (rs rd : Reg8) (a b c : Nat) (u : Byte) (i : Instr), a < 100 → b < 100 →
    s.reg8 rd = bcd a → u = bcd b →
    ((i = .addBImm u rd ∧ c = 0) ∨ (i = .addBReg rs rd ∧ s.reg8 rs = u ∧ c = 0) ∨
        (i = .addxImm u rd ∧ c = cinOf (s.flag .C)) ∨ (i = .addxReg rs rd ∧ s.reg8 rs = u ∧ c = cinOf (s.flag .C)) →
      ∃ t w, exec i s = .next t ∧ exec (.daa rd) t = .next w ∧
        w.reg8 rd = bcd ((a + b + c) % 100) ∧ w.flag .C = decide (100 ≤ a + b + c)) ∧
    ((i = .subBReg rs rd ∧ s.reg8 rs = u ∧ c = 0) ∨ (i = .subxImm u rd ∧ c = cinOf (s.flag .C)) ∨
        (i = .subxReg rs rd ∧ s.reg8 rs = u ∧ c = cinOf (s.flag .C)) →
      ∃ t w, exec i s = .next t ∧ exec (.das rd) t = .next w ∧
        w.reg8 rd = bcd ((a + 100 - (b + c)) % 100) ∧ w.flag .C = decide (a < b + c)) ∧
    ∃ t w, exec (.negB rd) s = .next t ∧ exec (.das rd) t = .next w ∧
      w.reg8 rd = bcd ((100 - a) % 100) ∧ w.flag .C = decide (0 < a))

/-- EXTS and EXTU: the lower half, as a signed or an unsigned number; N, Z, and V = 0 (R202, R203). The flag formulas
are PRESUMED, log 6. -/
def Obligations.Extend : Prop :=
  ∀ (s : State) (y : Reg16) (n : RegNum),
    (let v := ((s.reg16 y).extractLsb' 0 8).toInt
     ResultW (.extsW y) 2 s y (BitVec.ofInt 16 v) none (some (decide (v < 0))) (some (decide (v = 0))) (some false)
       none) ∧
    (let v := (s.reg16 (.r n)).toInt
     ResultL (.extsL n) 2 s n (BitVec.ofInt 32 v) none (some (decide (v < 0))) (some (decide (v = 0))) (some false)
       none) ∧
    (let v := (s.reg16 y).toNat % 256
     ResultW (.extuW y) 2 s y (BitVec.ofNat 16 v) none (some false) (some (decide (v = 0))) (some false) none) ∧
    (let v := (s.reg16 (.r n)).toNat
     ResultL (.extuL n) 2 s n (BitVec.ofNat 32 v) none (some false) (some (decide (v = 0))) (some false) none)

/-! ### Logic and shifts -/

/-- AND, OR, XOR, all forms and sizes, and NOT: the bits, N, Z, and V = 0 (R230 to R234). The flag formulas are
PRESUMED, log 6. -/
def Obligations.Logic : Prop :=
  ∀ (s : State) (b : Byte) (w : Word) (l : Long) (p q : Reg8) (x y : Reg16) (m n : RegNum),
    (∀ i r, (i = .andBImm b q ∧ r = s.reg8 q &&& b) ∨ (i = .andBReg p q ∧ r = s.reg8 q &&& s.reg8 p) ∨
        (i = .orBImm b q ∧ r = s.reg8 q ||| b) ∨ (i = .orBReg p q ∧ r = s.reg8 q ||| s.reg8 p) ∨
        (i = .xorBImm b q ∧ r = s.reg8 q ^^^ b) ∨ (i = .xorBReg p q ∧ r = s.reg8 q ^^^ s.reg8 p) ∨
        (i = .notB q ∧ r = ~~~(s.reg8 q)) →
      ResultB i 2 s q r none (some r.msb) (some (r == 0)) (some false) none) ∧
    (∀ i len r, (i = .andWImm w y ∧ len = 4 ∧ r = s.reg16 y &&& w) ∨
        (i = .andWReg x y ∧ len = 2 ∧ r = s.reg16 y &&& s.reg16 x) ∨
        (i = .orWImm w y ∧ len = 4 ∧ r = s.reg16 y ||| w) ∨
        (i = .orWReg x y ∧ len = 2 ∧ r = s.reg16 y ||| s.reg16 x) ∨
        (i = .xorWImm w y ∧ len = 4 ∧ r = s.reg16 y ^^^ w) ∨
        (i = .xorWReg x y ∧ len = 2 ∧ r = s.reg16 y ^^^ s.reg16 x) ∨
        (i = .notW y ∧ len = 2 ∧ r = ~~~(s.reg16 y)) →
      ResultW i len s y r none (some r.msb) (some (r == 0)) (some false) none) ∧
    (∀ i len r, (i = .andLImm l n ∧ len = 6 ∧ r = s.reg32 n &&& l) ∨
        (i = .andLReg m n ∧ len = 4 ∧ r = s.reg32 n &&& s.reg32 m) ∨
        (i = .orLImm l n ∧ len = 6 ∧ r = s.reg32 n ||| l) ∨
        (i = .orLReg m n ∧ len = 4 ∧ r = s.reg32 n ||| s.reg32 m) ∨
        (i = .xorLImm l n ∧ len = 6 ∧ r = s.reg32 n ^^^ l) ∨
        (i = .xorLReg m n ∧ len = 4 ∧ r = s.reg32 n ^^^ s.reg32 m) ∨
        (i = .notL n ∧ len = 2 ∧ r = ~~~(s.reg32 n)) →
      ResultL i len s n r none (some r.msb) (some (r == 0)) (some false) none)

/-- The shifts and rotates by one, all sizes (R250 to R258). To the left: SHAL and SHLL bring in 0, ROTL the bit shifted
out, ROTXL the old C; C is the bit shifted out; V is 0 but for SHAL, where it says that the sign changed. To the right:
SHAR keeps the sign, SHLR brings in 0, ROTR the bit shifted out, ROTXR the old C; C is the bit shifted out and V is 0.
The flag formulas are PRESUMED, log 6. -/
def Obligations.ShiftAndRotate : Prop :=
  (∀ (s : State) (q : Reg8) (y : Reg16) (n : RegNum),
    (∀ i low ar, (i = .shalB q ∧ low = false ∧ ar = true) ∨ (i = .shllB q ∧ low = false ∧ ar = false) ∨
        (i = .rotlB q ∧ low = (s.reg8 q).msb ∧ ar = false) ∨ (i = .rotxlB q ∧ low = s.flag .C ∧ ar = false) →
      ∃ r, ShiftedLeft (s.reg8 q) r low ∧
        ResultB i 2 s q r none (some r.msb) (some (r == 0)) (some (ar && (r.msb != (s.reg8 q).msb)))
          (some (s.reg8 q).msb)) ∧
    (∀ i low ar, (i = .shalW y ∧ low = false ∧ ar = true) ∨ (i = .shllW y ∧ low = false ∧ ar = false) ∨
        (i = .rotlW y ∧ low = (s.reg16 y).msb ∧ ar = false) ∨ (i = .rotxlW y ∧ low = s.flag .C ∧ ar = false) →
      ∃ r, ShiftedLeft (s.reg16 y) r low ∧
        ResultW i 2 s y r none (some r.msb) (some (r == 0)) (some (ar && (r.msb != (s.reg16 y).msb)))
          (some (s.reg16 y).msb)) ∧
    (∀ i low ar, (i = .shalL n ∧ low = false ∧ ar = true) ∨ (i = .shllL n ∧ low = false ∧ ar = false) ∨
        (i = .rotlL n ∧ low = (s.reg32 n).msb ∧ ar = false) ∨ (i = .rotxlL n ∧ low = s.flag .C ∧ ar = false) →
      ∃ r, ShiftedLeft (s.reg32 n) r low ∧
        ResultL i 2 s n r none (some r.msb) (some (r == 0)) (some (ar && (r.msb != (s.reg32 n).msb)))
          (some (s.reg32 n).msb))) ∧
  (∀ (s : State) (q : Reg8) (y : Reg16) (n : RegNum),
    (∀ i high, (i = .sharB q ∧ high = (s.reg8 q).msb) ∨ (i = .shlrB q ∧ high = false) ∨
        (i = .rotrB q ∧ high = (s.reg8 q).getLsbD 0) ∨ (i = .rotxrB q ∧ high = s.flag .C) →
      ∃ r, ShiftedRight (s.reg8 q) r high ∧
        ResultB i 2 s q r none (some r.msb) (some (r == 0)) (some false) (some ((s.reg8 q).getLsbD 0))) ∧
    (∀ i high, (i = .sharW y ∧ high = (s.reg16 y).msb) ∨ (i = .shlrW y ∧ high = false) ∨
        (i = .rotrW y ∧ high = (s.reg16 y).getLsbD 0) ∨ (i = .rotxrW y ∧ high = s.flag .C) →
      ∃ r, ShiftedRight (s.reg16 y) r high ∧
        ResultW i 2 s y r none (some r.msb) (some (r == 0)) (some false) (some ((s.reg16 y).getLsbD 0))) ∧
    (∀ i high, (i = .sharL n ∧ high = (s.reg32 n).msb) ∨ (i = .shlrL n ∧ high = false) ∨
        (i = .rotrL n ∧ high = (s.reg32 n).getLsbD 0) ∨ (i = .rotxrL n ∧ high = s.flag .C) →
      ∃ r, ShiftedRight (s.reg32 n) r high ∧
        ResultL i 2 s n r none (some r.msb) (some (r == 0)) (some false) (some ((s.reg32 n).getLsbD 0))))

/-! ### Bit manipulation -/

/-- BSET, BCLR, BNOT, BST, BIST on a register: one bit changes, no flag does (R270 to R274, R284, R285). -/
def Obligations.WriteBitOfRegister : Prop :=
  ∀ (s : State) (b : BitVec 3) (rn rd : Reg8) (i : Instr) (k : Nat) (x : Bool),
    (i = .bsetImmReg b rd ∧ k = b.toNat ∧ x = true) ∨
    (i = .bsetRegReg rn rd ∧ k = (s.reg8 rn).toNat % 8 ∧ x = true) ∨
    (i = .bclrImmReg b rd ∧ k = b.toNat ∧ x = false) ∨
    (i = .bclrRegReg rn rd ∧ k = (s.reg8 rn).toNat % 8 ∧ x = false) ∨
    (i = .bnotImmReg b rd ∧ k = b.toNat ∧ x = !(s.reg8 rd).getLsbD k) ∨
    (i = .bnotRegReg rn rd ∧ k = (s.reg8 rn).toNat % 8 ∧ x = !(s.reg8 rd).getLsbD k) ∨
    (i = .bstReg b rd ∧ k = b.toNat ∧ x = s.flag .C) ∨ (i = .bistReg b rd ∧ k = b.toNat ∧ x = !s.flag .C) →
    ∃ r : Byte, (∀ j, j < 8 → r.getLsbD j = if j = k then x else (s.reg8 rd).getLsbD j) ∧
      ResultB i 2 s rd r none none none none none

/-- BSET, BCLR, BNOT, BST, BIST on @ERd and on @aa:8, where the byte can be read, cannot be read, lies in the instruction
stream, or RES goes low before the write (R104, R270 to R274, R284 to R286, R406). The instruction stream is the model's
choice, log 13, that a write to on-chip ROM completes and changes nothing is log 14, the calls of a device log 17. What RES
going low leaves is log 38; that module registers which the platform supplies as cells take free values then is log 17. -/
def Obligations.WriteBitOfMemory : Prop :=
  ∀ (s : State) (b : BitVec 3) (rn : Reg8) (n : RegNum) (aa : BitVec 8),
    let a := ea24 (s.reg32 n)
    let c : Addr := 0xFFFF#16 ++ aa
    let k := (s.reg8 rn).toNat % 8
    WritesBit (.bsetImmInd b n) a b.toNat (fun _ => true) s ∧ WritesBit (.bsetRegInd rn n) a k (fun _ => true) s ∧
    WritesBit (.bsetImmAbs8 b aa) c b.toNat (fun _ => true) s ∧ WritesBit (.bsetRegAbs8 rn aa) c k (fun _ => true) s ∧
    WritesBit (.bclrImmInd b n) a b.toNat (fun _ => false) s ∧ WritesBit (.bclrRegInd rn n) a k (fun _ => false) s ∧
    WritesBit (.bclrImmAbs8 b aa) c b.toNat (fun _ => false) s ∧
    WritesBit (.bclrRegAbs8 rn aa) c k (fun _ => false) s ∧
    WritesBit (.bnotImmInd b n) a b.toNat (fun x => !x) s ∧ WritesBit (.bnotRegInd rn n) a k (fun x => !x) s ∧
    WritesBit (.bnotImmAbs8 b aa) c b.toNat (fun x => !x) s ∧ WritesBit (.bnotRegAbs8 rn aa) c k (fun x => !x) s ∧
    WritesBit (.bstInd b n) a b.toNat (fun _ => s.flag .C) s ∧
    WritesBit (.bstAbs8 b aa) c b.toNat (fun _ => s.flag .C) s ∧
    WritesBit (.bistInd b n) a b.toNat (fun _ => !s.flag .C) s ∧
    WritesBit (.bistAbs8 b aa) c b.toNat (fun _ => !s.flag .C) s

/-- BTST and the nine instructions on C, on a register: Z or C from one bit, and nothing else (R275 to R283). -/
def Obligations.TestBitOfRegister : Prop :=
  ∀ (s : State) (b : BitVec 3) (rn rd : Reg8),
    let x := (s.reg8 rd).getLsbD b.toNat
    let c := s.flag .C
    ResultFlags (.btstImmReg b rd) 2 s none none (some !x) none none ∧
    ResultFlags (.btstRegReg rn rd) 2 s none none (some !(s.reg8 rd).getLsbD ((s.reg8 rn).toNat % 8)) none none ∧
    ResultFlags (.bandReg b rd) 2 s none none none none (some (c && x)) ∧
    ResultFlags (.biandReg b rd) 2 s none none none none (some (c && !x)) ∧
    ResultFlags (.borReg b rd) 2 s none none none none (some (c || x)) ∧
    ResultFlags (.biorReg b rd) 2 s none none none none (some (c || !x)) ∧
    ResultFlags (.bxorReg b rd) 2 s none none none none (some (c != x)) ∧
    ResultFlags (.bixorReg b rd) 2 s none none none none (some (c == x)) ∧
    ResultFlags (.bldReg b rd) 2 s none none none none (some x) ∧
    ResultFlags (.bildReg b rd) 2 s none none none none (some !x)

/-- The same instructions on @ERd and on @aa:8, where the byte can be read and where it cannot (R270, R275 to R283).
The calls of a device are log 17. -/
def Obligations.TestBitOfMemory : Prop :=
  ∀ (s : State) (b : BitVec 3) (rn : Reg8) (n : RegNum) (aa : BitVec 8),
    let a := ea24 (s.reg32 n)
    let e : Addr := 0xFFFF#16 ++ aa
    let c := s.flag .C
    let k := (s.reg8 rn).toNat % 8
    let no : Bool → Option Bool := fun _ => none
    (∀ i f, (i = .btstImmInd b n ∧ f = a) ∨ (i = .btstImmAbs8 b aa ∧ f = e) →
      TestsBit i f (fun x => some !x) no b.toNat s) ∧
    (∀ i f, (i = .btstRegInd rn n ∧ f = a) ∨ (i = .btstRegAbs8 rn aa ∧ f = e) →
      TestsBit i f (fun x => some !x) no k s) ∧
    (∀ i f, (i = .bandInd b n ∧ f = a) ∨ (i = .bandAbs8 b aa ∧ f = e) →
      TestsBit i f no (fun x => some (c && x)) b.toNat s) ∧
    (∀ i f, (i = .biandInd b n ∧ f = a) ∨ (i = .biandAbs8 b aa ∧ f = e) →
      TestsBit i f no (fun x => some (c && !x)) b.toNat s) ∧
    (∀ i f, (i = .borInd b n ∧ f = a) ∨ (i = .borAbs8 b aa ∧ f = e) →
      TestsBit i f no (fun x => some (c || x)) b.toNat s) ∧
    (∀ i f, (i = .biorInd b n ∧ f = a) ∨ (i = .biorAbs8 b aa ∧ f = e) →
      TestsBit i f no (fun x => some (c || !x)) b.toNat s) ∧
    (∀ i f, (i = .bxorInd b n ∧ f = a) ∨ (i = .bxorAbs8 b aa ∧ f = e) →
      TestsBit i f no (fun x => some (c != x)) b.toNat s) ∧
    (∀ i f, (i = .bixorInd b n ∧ f = a) ∨ (i = .bixorAbs8 b aa ∧ f = e) →
      TestsBit i f no (fun x => some (c == x)) b.toNat s) ∧
    (∀ i f, (i = .bldInd b n ∧ f = a) ∨ (i = .bldAbs8 b aa ∧ f = e) →
      TestsBit i f no (fun x => some x) b.toNat s) ∧
    (∀ i f, (i = .bildInd b n ∧ f = a) ∨ (i = .bildAbs8 b aa ∧ f = e) →
      TestsBit i f no (fun x => some !x) b.toNat s)

/-! ### Branches -/

/-- The sixteen conditions (R300) with both displacement sizes (R301, R302). The condition codes are PRESUMED, log 5;
PC bit 0 is dropped, log 9. -/
def Obligations.ConditionalBranches : Prop :=
  ∀ (s : State) (d : BranchDisp),
    let n := s.flag .N
    let z := s.flag .Z
    let v := s.flag .V
    let c := s.flag .C
    Branches (.bra d) d true s ∧ Branches (.brn d) d false s ∧
    Branches (.bhi d) d (decide ((c || z) = false)) s ∧ Branches (.bls d) d (decide ((c || z) = true)) s ∧
    Branches (.bcc d) d (decide (c = false)) s ∧ Branches (.bcs d) d (decide (c = true)) s ∧
    Branches (.bne d) d (decide (z = false)) s ∧ Branches (.beq d) d (decide (z = true)) s ∧
    Branches (.bvc d) d (decide (v = false)) s ∧ Branches (.bvs d) d (decide (v = true)) s ∧
    Branches (.bpl d) d (decide (n = false)) s ∧ Branches (.bmi d) d (decide (n = true)) s ∧
    Branches (.bge d) d (decide ((n ^^ v) = false)) s ∧ Branches (.blt d) d (decide ((n ^^ v) = true)) s ∧
    Branches (.bgt d) d (decide ((z || (n ^^ v)) = false)) s ∧
    Branches (.ble d) d (decide ((z || (n ^^ v)) = true)) s

/-- After `CMP x, Rd`, with a register or an immediate x, every unsigned condition compares Rd with x as unsigned
numbers and every signed one as two's-complement numbers, at every size (R183, R300). The flag formulas are PRESUMED,
log 6. The condition codes are PRESUMED, log 5; PC bit 0 is dropped, log 9. -/
def Obligations.CompareThenBranch : Prop :=
  ∀ (s : State) (disp : BranchDisp) (b : Byte) (w : Word) (l : Long) (p q : Reg8) (x y : Reg16) (m n : RegNum)
    (i : Instr),
    (∀ u, (i = .cmpBImm b q ∧ u = b) ∨ (i = .cmpBReg p q ∧ u = s.reg8 p) →
      ∃ t, exec i s = .next t ∧ BranchesOnOrder (s.reg8 q) u disp t) ∧
    (∀ u, (i = .cmpWImm w y ∧ u = w) ∨ (i = .cmpWReg x y ∧ u = s.reg16 x) →
      ∃ t, exec i s = .next t ∧ BranchesOnOrder (s.reg16 y) u disp t) ∧
    (∀ u, (i = .cmpLImm l n ∧ u = l) ∨ (i = .cmpLReg m n ∧ u = s.reg32 m) →
      ∃ t, exec i s = .next t ∧ BranchesOnOrder (s.reg32 n) u disp t)

/-- JMP in its three forms: PC is the target with bit 0 dropped, and nothing else changes (R303 to R305). PC bit 0 is
dropped, log 9. -/
def Obligations.Jumps : Prop :=
  ∀ (s : State) (n : RegNum) (a : BitVec 24) (aa : BitVec 8) (v : Long) (i : Instr) (target : Addr),
    (i = .jmpInd n ∧ target = ea24 (s.reg32 n)) ∨ (i = .jmpAbs24 a ∧ target = a) ∨
    (i = .jmpMemInd aa ∧ target = ea24 v ∧ HoldsLong s (evenAddr (aa.zeroExtend 24)) v) →
    ∃ t, exec i s = .next t ∧ t.pc = evenAddr target ∧ SameRegs s t ∧ t.ccr = s.ccr ∧ OnlyCpu s t

/-- BSR and JSR in their five forms, on every stack that can be stored to: ER7 goes down by 4, the return address
stands in the frame's lower three bytes, PC is the target, no flag and no other register changes (R306 to R310, R312).
Nothing is said of the reserved byte. The frame is PRESUMED, log 6, the order of target and push the decision D12, log
30, the bytes of a frame in registers log 35, a frame in on-chip ROM log 14; bit 0 of the target is dropped, log 9; the
reserved byte is free, log 18. The calls of a device are log 17, the instruction stream is log 13. -/
def Obligations.Calls : Prop :=
  ∀ (s s1 : State) (i : Instr) (len : Nat) (target : Addr), CallForm s i len target s1 →
    s.resDuring = none → s.mem.wf = true → Storable s (len + 4) 4 (frameAddr s) → CalledFrom i len target s s1

/-- RTS and RTE: the longword at ER7 gives PC (and CCR, for RTE), ER7 goes up by 4, nothing else changes (R311, R321).
The layout of the frame of RTS is PRESUMED, log 6; bit 0 of PC is dropped, log 9. -/
def Obligations.Returns : Prop :=
  ∀ (s : State) (v : Long), HoldsLong s (evenAddr (ea24 (s.reg32 sp))) v →
    (∃ t, exec .rts s = .next t ∧ t.pc = evenAddr (ea24 v) ∧ t.ccr = s.ccr ∧ t.reg32 sp = s.reg32 sp + 4 ∧
      OtherRegs sp s t ∧ OnlyCpu s t) ∧
    (∃ t, exec .rte s = .next t ∧ t.pc = evenAddr (ea24 v) ∧ t.ccr = v.extractLsb' 24 8 ∧
      t.reg32 sp = s.reg32 sp + 4 ∧ OtherRegs sp s t ∧ OnlyCpu s t)

/-! ### System control -/

/-- LDC, ANDC, ORC, XORC and LDC from memory: all eight bits of CCR, and the interrupt hold-off; from memory the byte
at the even address (R323 to R325, R328 to R330, R332). The memory forms and the even byte are PRESUMED, log 6. That a
word is read byte by byte from registers is log 35; the calls of a device are log 17. -/
def Obligations.LoadCcr : Prop :=
  ∀ (s : State) (n : RegNum) (d : BitVec 16) (e : BitVec 24) (b : Byte) (p : Reg8),
    (∀ i r, (i = .ldcImm b ∧ r = b) ∨ (i = .ldcReg p ∧ r = s.reg8 p) ∨ (i = .andc b ∧ r = s.ccr &&& b) ∨
        (i = .orc b ∧ r = s.ccr ||| b) ∨ (i = .xorc b ∧ r = s.ccr ^^^ b) →
      ∃ t, exec i s = .next t ∧ t.ccr = r ∧ t.irqInhibit = true ∧ SameRegs s t ∧ PcAfter 2 s t ∧ SameInputs s t ∧
        SameControl s t ∧ SameDevices s t ∧ SameProcessing s t ∧ SameMemory s t) ∧
    (∀ i len m, (i = .ldcInd n ∧ len = 4 ∧ m = .ind n) ∨ (i = .ldcDisp16 d n ∧ len = 6 ∧ m = .disp16 d n) ∨
        (i = .ldcDisp24 e n ∧ len = 10 ∧ m = .disp24 e n) ∨ (i = .ldcPostInc n ∧ len = 4 ∧ m = .postInc n) ∨
        (i = .ldcAbs16 d ∧ len = 6 ∧ m = .abs16 d) ∨ (i = .ldcAbs24 e ∧ len = 8 ∧ m = .abs24 e) →
      (∀ why, s.readWord (s.ea 2 m) = .error why → exec i s = finish (.error why)) ∧
      (∀ w s1, s.readWord (s.ea 2 m) = .ok (w, s1) →
        ∃ t, exec i s = .next t ∧ t.ccr = w.extractLsb' 8 8 ∧ t.irqInhibit = true ∧
          (∀ k, RegsAfterMode m 2 s t k) ∧ PcAfter len s t ∧ SameInputs s t ∧ SameControl s1 t ∧ SameDevices s1 t ∧
          SameProcessing s t ∧ SameMemory s t))

/-- STC: CCR goes to Rd, or to the even byte of a word in memory; the odd byte is left open; no flag changes and there
is no hold-off (R326, R327, R332). The memory forms and the even byte are PRESUMED, log 6; that a store to on-chip ROM
completes and changes nothing is log 14, the bytes of registers are log 35; the odd byte is free, log 18. The calls of
a device are log 17, the instruction stream is log 13. -/
def Obligations.StoreCcr : Prop :=
  ∀ (s : State) (n : RegNum) (d : BitVec 16) (e : BitVec 24) (q : Reg8),
    ResultB (.stcReg q) 2 s q s.ccr none none none none none ∧
    (∀ i len m, (i = .stcInd n ∧ len = 4 ∧ m = .ind n) ∨ (i = .stcDisp16 d n ∧ len = 6 ∧ m = .disp16 d n) ∨
        (i = .stcDisp24 e n ∧ len = 10 ∧ m = .disp24 e n) ∨ (i = .stcPreDec n ∧ len = 4 ∧ m = .preDec n) ∨
        (i = .stcAbs16 d ∧ len = 6 ∧ m = .abs16 d) ∨ (i = .stcAbs24 e ∧ len = 8 ∧ m = .abs24 e) →
      s.resDuring = none → s.mem.wf = true → Storable s (len + 4) 2 (evenAddr (s.ea 2 m)) →
      ∃ (t : State) (x : Byte), exec i s = .next t ∧ StoredWord (s.ea 2 m) (s.ccr ++ x) s t ∧
        (∀ k, RegsAfterMode m 2 s t k) ∧
        t.ccr = s.ccr ∧ PcAfter len s t ∧ SameInputs s t ∧ SameProcessing s t ∧ t.irqInhibit = s.irqInhibit)

/-- NOP moves PC by 2; SLEEP does so and enters sleep mode, or with SSBY software standby mode; registers, CCR and
memory but for module registers stay (R322, R331, R403, R404). In sleep mode the control registers stay too; in software
standby mode the modules are reset, and with them ISCR, ISR and IPRB, while SYSCR and IPRA stay (R404, R407) and so does
IER, which decides what wakes (D14): log 27. What becomes of module requests is log 25. Module registers that the
platform supplies as cells are reset in software standby mode, to values nothing is said of; those of I/O ports stay
(R404): log 17. -/
def Obligations.NopAndSleep : Prop :=
  ∀ s : State,
    (∃ t, exec .nop s = .next t ∧ PcAfter 2 s t ∧ SameRegs s t ∧ t.ccr = s.ccr ∧ OnlyCpu s t) ∧
    (∃ t, exec .sleep s = .next t ∧ PcAfter 2 s t ∧ SameRegs s t ∧ t.ccr = s.ccr ∧ SameInputs s t ∧ SameDevices s t ∧
      t.irqInhibit = s.irqInhibit ∧ t.nmiRequest = s.nmiRequest ∧ t.syscr = s.syscr ∧
      t.ipra = s.ipra ∧ t.ier = s.ier ∧
      (s.syscr.getLsbD 7 = false → t.pstate = .sleep ∧ SameControl s t ∧ SameMemory s t ∧
        t.moduleRequests = s.moduleRequests) ∧
      (s.syscr.getLsbD 7 = true → t.pstate = .softwareStandby ∧ SameCellsButModules false s t ∧ t.iscr = 0#8 ∧
        t.isr = 0#8 ∧ t.iprb = 0#8 ∧ t.moduleRequests = []))

/-- TRAPA takes its exception: vector 8 to 11, the return address is that of the next instruction, no mask holds it off
(R320, R384, R386, R389). Bit 0 of an odd vector entry is dropped by D3, log 9; the frame must lie outside the instruction
stream, D11, log 13. -/
def Obligations.TrapTakesException : Prop :=
  ∀ (s : State) (k : BitVec 2) (v : Long), s.resDuring = none → s.mem.wf = true → RamAt s 4 (frameAddr s) →
    Storable s 6 4 (frameAddr s) → HoldsLong s (BitVec.ofNat 24 (4 * (8 + k.toNat))) v →
    Apart s (BitVec.ofNat 24 (4 * (8 + k.toNat))) 4 (frameAddr s) 4 →
    ∃ t, exec (.trapa k) s = .next t ∧ TookException s t (s.pc + 2) v ∧ SameProcessing s t ∧
      t.irqInhibit = s.irqInhibit

/-- RTE undoes TRAPA, RTS undoes BSR and JSR in all five forms: a handler or a subroutine that returns at once leaves
every register, CCR, the stack pointer and every byte outside the frame as they were, at the instruction after the
TRAPA, the BSR or the JSR (R306 to R312, R389, R390). The frame of a call is PRESUMED, log 6; bit 0 of a target or a
vector is dropped, log 9; the frame must lie outside the instruction stream, log 13. The order of target and push is
the decision D12, log 30. -/
def Obligations.ReturnUndoesEntry : Prop :=
  (∀ (s : State) (k : BitVec 2) (v : Long), s.resDuring = none → s.mem.wf = true → s.pc.getLsbD 0 = false →
    RamAt s 4 (frameAddr s) → Storable s 6 4 (frameAddr s) →
    HoldsLong s (BitVec.ofNat 24 (4 * (8 + k.toNat))) v →
    Apart s (BitVec.ofNat 24 (4 * (8 + k.toNat))) 4 (frameAddr s) 4 →
    ∃ t u, exec (.trapa k) s = .next t ∧ t.pc = evenAddr (ea24 v) ∧ exec .rte t = .next u ∧ u.pc = s.pc + 2 ∧
      u.ccr = s.ccr ∧ SameRegs s u ∧ SameOutside s u (frameAddr s) 4) ∧
  (∀ (s s1 : State) (i : Instr) (len : Nat) (target : Addr), CallForm s i len target s1 → s.resDuring = none →
    s.mem.wf = true → s.pc.getLsbD 0 = false → RamAt s 4 (frameAddr s) → Storable s (len + 4) 4 (frameAddr s) →
    ∃ t u, exec i s = .next t ∧ t.pc = evenAddr target ∧ exec .rts t = .next u ∧
      u.pc = s.pc + BitVec.ofNat 24 len ∧ SameRegs s u ∧ u.ccr = s.ccr ∧ SameOutside s u (frameAddr s) 4)

/-! ### Block transfer -/

/-- EEPMOV.B moves R4L bytes and EEPMOV.W R4 bytes, also none; the counter ends at 0, no flag changes; the blocks may
overlap (R350, R351). Whatever the addresses, one byte is moved at a time: a byte is read at ER5 and stored at ER6,
both go up by 1 and the counter down by 1, and what is left is a block transfer again; where the read or the store
stops, the instruction stops so. A destination in the instruction stream is stated in StreamStoreRefused, log 13; what
RES going low leaves is log 38. A store to on-chip ROM is log 14, the calls of a device are log 17. -/
def Obligations.BlockTransfer : Prop :=
  ∀ s : State, s.nmiDuringTransfer = none →
    (BlockReady (s.reg8 (.l 4)).toNat s →
      ∃ t, exec .eepmovB s = .next t ∧ MovedBlock (s.reg8 (.l 4)).toNat s t ∧ t.reg8 (.l 4) = 0#8 ∧
        t.reg8 (.h 4) = s.reg8 (.h 4) ∧ t.reg16 (.e 4) = s.reg16 (.e 4) ∧ PcAfter 4 s t ∧ SameProcessing s t ∧
        t.irqInhibit = s.irqInhibit) ∧
    (BlockReady (s.reg16 (.r 4)).toNat s →
      ∃ t, exec .eepmovW s = .next t ∧ MovedBlock (s.reg16 (.r 4)).toNat s t ∧ t.reg16 (.r 4) = 0#16 ∧
        t.reg16 (.e 4) = s.reg16 (.e 4) ∧ PcAfter 4 s t ∧ SameProcessing s t ∧ t.irqInhibit = s.irqInhibit) ∧
    (∀ i, (i = .eepmovB ∧ s.reg8 (.l 4) ≠ 0#8) ∨ (i = .eepmovW ∧ s.reg16 (.r 4) ≠ 0#16) →
      (∀ why, s.readByte (sourceAt s 0) = .error why → exec i s = finish (.error why)) ∧
      (∀ v s1, s.readByte (sourceAt s 0) = .ok (v, s1) →
        (∀ why, s1.storeByte 8 (destinationAt s 0) v = .error why → exec i s = finish (.error why)) ∧
        (∀ s2, s1.storeByte 8 (destinationAt s 0) v = .ok s2 →
          let s3 := (s2.setReg32 5 (s.reg32 5 + 1)).setReg32 6 (s.reg32 6 + 1)
          exec i s = exec i (match i with
            | .eepmovB => s3.setReg8 (.l 4) (s.reg8 (.l 4) - 1)
            | _ => s3.setReg16 (.r 4) (s.reg16 (.r 4) - 1)))))

/-- An NMI that arrives while byte `k` of EEPMOV.W moves ends it after that byte, with the registers part-way and PC
at the next instruction, and is then requested; EEPMOV.B completes first (R352). The input that said when the NMI comes is
then used up; the rest of ER4, the other requests and the processing state stay. A transfer of no more than `k` bytes is
over before the NMI comes: it completes, nothing is requested, and the input stays. That the transfer ends so is the
decision D13; the input that says when the NMI comes, and what becomes of it, are the model's, log 28. -/
def Obligations.BlockTransferInterrupted : Prop :=
  ∀ (s : State) (k : Nat), s.nmiDuringTransfer = some k →
    (k < (s.reg16 (.r 4)).toNat → BlockReady (k + 1) s →
      ∃ t, exec .eepmovW s = .next t ∧ MovedBlock (k + 1) s t ∧
        t.reg16 (.r 4) = s.reg16 (.r 4) - BitVec.ofNat 16 (k + 1) ∧ t.reg16 (.e 4) = s.reg16 (.e 4) ∧ PcAfter 4 s t ∧
        t.nmiRequest = true ∧ t.nmiDuringTransfer = none ∧ t.pstate = s.pstate ∧
        t.moduleRequests = s.moduleRequests ∧ t.irqInhibit = s.irqInhibit) ∧
    (k < (s.reg8 (.l 4)).toNat → BlockReady (s.reg8 (.l 4)).toNat s →
      ∃ t, exec .eepmovB s = .next t ∧ MovedBlock (s.reg8 (.l 4)).toNat s t ∧ t.reg8 (.l 4) = 0#8 ∧
        t.reg8 (.h 4) = s.reg8 (.h 4) ∧ t.reg16 (.e 4) = s.reg16 (.e 4) ∧ PcAfter 4 s t ∧
        t.nmiRequest = true ∧ t.nmiDuringTransfer = none ∧ t.pstate = s.pstate ∧
        t.moduleRequests = s.moduleRequests ∧ t.irqInhibit = s.irqInhibit) ∧
    ((s.reg16 (.r 4)).toNat ≤ k → BlockReady (s.reg16 (.r 4)).toNat s →
      ∃ t, exec .eepmovW s = .next t ∧ MovedBlock (s.reg16 (.r 4)).toNat s t ∧ t.reg16 (.r 4) = 0#16 ∧
        t.reg16 (.e 4) = s.reg16 (.e 4) ∧ PcAfter 4 s t ∧ SameProcessing s t ∧ t.irqInhibit = s.irqInhibit) ∧
    ((s.reg8 (.l 4)).toNat ≤ k → BlockReady (s.reg8 (.l 4)).toNat s →
      ∃ t, exec .eepmovB s = .next t ∧ MovedBlock (s.reg8 (.l 4)).toNat s t ∧ t.reg8 (.l 4) = 0#8 ∧
        t.reg8 (.h 4) = s.reg8 (.h 4) ∧ t.reg16 (.e 4) = s.reg16 (.e 4) ∧ PcAfter 4 s t ∧ SameProcessing s t ∧
        t.irqInhibit = s.irqInhibit)

/-! ### Interrupts, reset, processing states -/

/-- An accepted interrupt is entered at the boundary: the frame holds PC, the vector is the source's, by its number in
the tables of R364 and R366, of which that of R366 is PRESUMED, log 24 (R386, R389, R460), in the program execution
state, in sleep mode and in software standby mode, which it ends (R403, R404). The requests are those that sampling the
pins and taking this one leave, which PinSampling states: an NMI that is entered is no longer requested (R383), a
module's request is the module's, log 25. The mask, the tie-break and the register layouts are PRESUMED, log 24; bit 0
of an odd vector entry is dropped, log 9; when the pins are sampled is log 22; that an accepted request ends sleep, and
software standby mode by the decision D14, is log 27. That the frame is not checked against the instruction stream is
log 13. -/
def Obligations.InterruptEntry : Prop :=
  ∀ (s : State) (r : Source) (n : Nat) (v : Long), (r, n) ∈ sourceVectors →
    s.pstate = .program ∨ s.pstate = .sleep ∨ s.pstate = .softwareStandby →
    s.resLow = false → s.resDuring = none → s.stbyLow = false → s.samplePins.accepted = some r → s.mem.wf = true →
    RamAt s 4 (frameAddr s) → HoldsLong s (BitVec.ofNat 24 (4 * n)) v →
    Apart s (BitVec.ofNat 24 (4 * n)) 4 (frameAddr s) 4 →
    let a := s.samplePins.acknowledge r
    ∃ t, step s = .next t ∧ TookException a t s.pc v ∧ t.pstate = .program ∧ t.nmiRequest = a.nmiRequest ∧
      t.moduleRequests = a.moduleRequests ∧ t.nmiDuringTransfer = a.nmiDuringTransfer ∧ t.irqInhibit = a.irqInhibit

/-- Sampling the pins (R47, R53, R55, R383): an NMI request is set by the edge that NMIEG selects; the flag of an
edge-sensed IRQ line is set by a falling edge and stays, the flag of a level-sensed line is set while the pin is low; no
other bit of ISR changes, and nothing else but the record of ISR reads and of the levels seen. What a request is (R54,
R378, R383): an IRQ line's flag that IER enables, or a request of a module while the modules run. What taking one
clears: the NMI request, the flag of an edge-sensed line with its record, and nothing else. When the pins are sampled is
log 22, the record of ISR reads log 23, the layouts and the sensing are PRESUMED, log 24, module requests are log 25. -/
def Obligations.PinSampling : Prop :=
  ∀ (s : State) (l : IrqLine) (m : ModuleInterrupt) (i : Nat),
    let t := s.samplePins
    let u := s.acknowledge (.irq l)
    (t.nmiRequest = (s.nmiRequest || (if s.syscr.getLsbD 2 then !s.pinsSeen.nmi && s.pins.nmi
      else s.pinsSeen.nmi && !s.pins.nmi))) ∧
    (s.iscr.getLsbD l.bit = true →
      t.isr.getLsbD l.bit = (s.isr.getLsbD l.bit || (s.pinsSeen.level l && !s.pins.level l))) ∧
    (s.iscr.getLsbD l.bit = false → t.isr.getLsbD l.bit = !s.pins.level l) ∧
    ((∀ k : IrqLine, i ≠ k.bit) → t.isr.getLsbD i = s.isr.getLsbD i) ∧
    t = { s with nmiRequest := t.nmiRequest, isr := t.isr, isrRead := s.isrRead &&& t.isr, pinsSeen := s.pins } ∧
    Source.nmi ∉ s.maskableRequests ∧
    (Source.irq l ∈ s.maskableRequests ↔ s.isr.getLsbD l.bit = true ∧ s.ier.getLsbD l.bit = true) ∧
    (Source.internal m ∈ s.maskableRequests ↔ m ∈ s.moduleRequests ∧ s.pstate ≠ .softwareStandby) ∧
    (s.wakes = true ↔ s.nmiRequest = true ∨ ∃ k, Source.irq k ∈ s.maskableRequests) ∧
    s.acknowledge .nmi = { s with nmiRequest := false } ∧
    u = { s with isr := u.isr, isrRead := u.isrRead } ∧
    u.isr.getLsbD i = (s.isr.getLsbD i && !(s.iscr.getLsbD l.bit && decide (i = l.bit))) ∧
    u.isrRead.getLsbD i = (s.isrRead.getLsbD i && !(s.iscr.getLsbD l.bit && decide (i = l.bit))) ∧
    s.acknowledge (.internal m) = s

/-- The mask (R380): NMI is always accepted where the hold-off lets any; another request is accepted if I is 0, or if
UE and UI are 0 and its priority level is 1; otherwise it stays pending. While the hold-off is set, nothing is
accepted (R381). The choice among simultaneous requests (R382): NMI first, then priority level 1, then level 0, and within
a level the lower vector number; a request is presented if there is one. The vector numbers are those of R364 and R366; the
priority level of a source is the bit of IPRA or IPRB that R51, R52 and R382 give it. The mask, the tie-break, the vectors
of R366 and the register layouts are PRESUMED, log 24; the layout of IPRB is a parameter (R52), log 3. -/
def Obligations.InterruptAcceptance : Prop :=
  (∀ (s : State),
    (s.irqInhibit = true → s.accepted = none) ∧
    (s.irqInhibit = false → s.nmiRequest = true → s.accepted = some .nmi) ∧
    (s.irqInhibit = false → s.nmiRequest = false →
      ∀ r, s.accepted = some r ↔
        (s.presented = some r ∧
          (s.flag .I = false ∨ (s.syscr.getLsbD 3 = false ∧ s.flag .UI = false ∧ s.levelOne r = true))))) ∧
  (∀ (s : State),
    (s.nmiRequest = true → s.presented = some .nmi) ∧
    (s.nmiRequest = false →
      (s.presented = none ↔ s.maskableRequests = []) ∧
      ∀ r, s.presented = some r → r ∈ s.maskableRequests ∧
        ∀ q, q ∈ s.maskableRequests → (s.levelOne q = true → s.levelOne r = true) ∧
          (s.levelOne q = s.levelOne r → r.vector ≤ q.vector))) ∧
  (∀ (r : Source) (n : Nat), r.vector = n ↔ (r, n) ∈ sourceVectors) ∧
  (∀ (s : State) (i : Nat) (rs : List Source) (r : Source), r ∈ rs →
    ((i, rs) ∈ ipraGroups → s.levelOne r = s.ipra.getLsbD i) ∧
    ((i, rs) ∈ iprbGroups s.iprbLayout → s.levelOne r = s.iprb.getLsbD i)) ∧
  (∀ (l : IprbLayout) (r : Source), r ≠ .nmi → ∃ g ∈ ipraGroups ++ iprbGroups l, r ∈ g.2)

/-- Reset exception handling (R370, R374, R430): when RES goes high, I is set, PC comes from the reset vector, nothing
is pushed, the control registers have their initial values, and the first instruction comes before any interrupt.
Registers and on-chip RAM take free values, log 26; bit 0 of the vector is dropped, log 9; no NMI request is left, nor
an NMI that had not yet come, log 37; the modules request nothing, log 25. Module registers that the platform supplies
as cells are initialised to values not in the extract (R60), free values, log 17; every other cell outside on-chip RAM
stays. -/
def Obligations.ResetExceptionHandling : Prop :=
  ∀ (s : State) (v : Long), s.pstate = .reset → s.resLow = false → s.stbyLow = false → HoldsLong s 0#24 v →
    ∃ t, step s = .next t ∧ t.pc = evenAddr (ea24 v) ∧ t.flag .I = true ∧ t.irqInhibit = true ∧
      t.pstate = .program ∧ t.syscr = 0x0B#8 ∧ t.iscr = 0#8 ∧ t.ier = 0#8 ∧ t.isr = 0#8 ∧ t.ipra = 0#8 ∧
      t.iprb = 0#8 ∧ t.accepted = none ∧ t.nmiRequest = false ∧ t.nmiDuringTransfer = none ∧ t.moduleRequests = [] ∧
      ∀ k, k < topBase s.mcuMode + Product.ramStart s.product ∨ topBase s.mcuMode + 0xFF10 ≤ k →
        s.moduleCell true k = false → t.mem.read k = s.mem.read k

/-- RES low leads to the reset state from every state but hardware standby; STBY low leads to hardware standby, from the
reset state also while RES is low; from there only STBY high with RES low leads on, to the reset state; neither pin's
state runs an instruction (R371, R400, R405, R406). The case of both pins low in the program execution state, and what
else hardware standby keeps, are log 33. Entering either state drops a pending NMI request, log 37, and the modules'
requests, log 25. Module registers that the platform supplies as cells are reset on entering either state, to values
nothing is said of, log 17; every other cell stays, and staying in either state changes no cell. -/
def Obligations.ResetAndStandbyPins : Prop :=
  ∀ (s : State),
    (s.resLow = true → s.pstate = .program ∨ s.pstate = .sleep ∨ s.pstate = .softwareStandby →
      ∃ t, step s = .next t ∧ t.pstate = .reset ∧ t.flag .I = true ∧ t.syscr = 0x0B#8 ∧ SameCellsButModules true s t ∧
        t.nmiRequest = false ∧ t.moduleRequests = []) ∧
    (s.resLow = true → s.stbyLow = false → s.pstate = .reset →
      ∃ t, step s = .next t ∧ t.pstate = .reset ∧ SameCells s t) ∧
    (s.stbyLow = true → s.pstate = .reset →
      ∃ t, step s = .next t ∧ t.pstate = .hardwareStandby ∧ SameCellsButModules true s t ∧ t.syscr = 0x0B#8 ∧
        t.ipra = 0#8 ∧ t.nmiRequest = false ∧ t.moduleRequests = []) ∧
    (s.stbyLow = true → s.resLow = false →
      ∃ t, step s = .next t ∧ t.pstate = .hardwareStandby ∧ SameCellsButModules true s t ∧
        (s.pstate = .hardwareStandby → SameCells s t) ∧
        (s.pstate ≠ .hardwareStandby →
          t.syscr = 0x0B#8 ∧ t.ipra = 0#8 ∧ t.nmiRequest = false ∧ t.moduleRequests = [])) ∧
    (s.pstate = .hardwareStandby →
      ∃ t, step s = .next t ∧ SameCellsButModules true s t ∧ (t.pstate = .hardwareStandby → SameCells s t) ∧
        t.pstate = (if s.stbyLow = false ∧ s.resLow = true then .reset else .hardwareStandby) ∧
        (t.pstate = .reset → t.nmiRequest = false ∧ t.moduleRequests = []))

/-- RES going low during a step: whatever next state the step answers, RES is then low, so that the reset state follows
(R371, R406). An interrupt entry during which RES falls before the first write of its frame is abandoned: the machine is in
the reset state, with I set, the control registers initialised, no request, and no cell changed but for module registers,
which are initialised (R406). What a store of an
instruction leaves is stated with the stores. The count of writes, and that an instruction with no write left completes,
are the model's choice, log 38; the dropped NMI request is log 37, that the modules request nothing is log 25. Module
registers that the platform supplies as cells take free values, log 17. -/
def Obligations.ResetDuringStep : Prop :=
  (∀ (s t : State), s.resDuring ≠ none → step s = .next t → t.resLow = true ∧ t.resDuring = none) ∧
  (∀ (s : State) (r : Source), s.pstate = .program → s.resLow = false → s.stbyLow = false →
    s.samplePins.accepted = some r → s.resDuring = some 0 →
    ∃ t, step s = .next t ∧ t.resLow = true ∧ t.pstate = .reset ∧ t.flag .I = true ∧ t.syscr = 0x0B#8 ∧
      t.iscr = 0#8 ∧ t.ier = 0#8 ∧ t.isr = 0#8 ∧ t.ipra = 0#8 ∧ t.iprb = 0#8 ∧ t.nmiRequest = false ∧
      t.moduleRequests = [] ∧ SameCellsButModules true s t)

/-- Sleep mode goes on until an interrupt is accepted (R403). Software standby mode goes on until NMI or an enabled
IRQ; a waking request that is masked lets the program go on after the SLEEP, with everything as it was: the request stays
pending (R380, R404). Waking is the decision D14, log 27. -/
def Obligations.SleepAndStandby : Prop :=
  ∀ (s : State), s.resLow = false → s.resDuring = none → s.stbyLow = false → s.samplePins.accepted = none →
    (s.pstate = .sleep → step s = .next s.samplePins) ∧
    (s.pstate = .softwareStandby →
      (s.samplePins.wakes = false → step s = .next s.samplePins) ∧
      (s.samplePins.wakes = true → step s = .next { s.samplePins with pstate := .program }))
end

