-- ==== Sys2Proof/Laws/State.lean ====
section
/-! SUPPORT. Each field after each update of the state. -/

namespace Sys2Proof.Machine

/-! ### `State.setReg32` -/

@[simp] theorem State.setReg32_er (s : State) (n : RegNum) (v : Long) : (s.setReg32 n v).er = s.er.set n.val v := rfl
@[simp] theorem State.setReg32_pc (s : State) (n : RegNum) (v : Long) : (s.setReg32 n v).pc = s.pc := rfl
@[simp] theorem State.setReg32_ccr (s : State) (n : RegNum) (v : Long) : (s.setReg32 n v).ccr = s.ccr := rfl
@[simp] theorem State.setReg32_mem (s : State) (n : RegNum) (v : Long) : (s.setReg32 n v).mem = s.mem := rfl
@[simp] theorem State.setReg32_mcuMode (s : State) (n : RegNum) (v : Long) : (s.setReg32 n v).mcuMode = s.mcuMode := rfl
@[simp] theorem State.setReg32_product (s : State) (n : RegNum) (v : Long) : (s.setReg32 n v).product = s.product := rfl
@[simp] theorem State.setReg32_platform (s : State) (n : RegNum) (v : Long) : (s.setReg32 n v).platform = s.platform := rfl
@[simp] theorem State.setReg32_iprbLayout (s : State) (n : RegNum) (v : Long) : (s.setReg32 n v).iprbLayout = s.iprbLayout := rfl
@[simp] theorem State.setReg32_deviceAnswers (s : State) (n : RegNum) (v : Long) : (s.setReg32 n v).deviceAnswers = s.deviceAnswers := rfl
@[simp] theorem State.setReg32_deviceCalls (s : State) (n : RegNum) (v : Long) : (s.setReg32 n v).deviceCalls = s.deviceCalls := rfl
@[simp] theorem State.setReg32_syscr (s : State) (n : RegNum) (v : Long) : (s.setReg32 n v).syscr = s.syscr := rfl
@[simp] theorem State.setReg32_iscr (s : State) (n : RegNum) (v : Long) : (s.setReg32 n v).iscr = s.iscr := rfl
@[simp] theorem State.setReg32_ier (s : State) (n : RegNum) (v : Long) : (s.setReg32 n v).ier = s.ier := rfl
@[simp] theorem State.setReg32_isr (s : State) (n : RegNum) (v : Long) : (s.setReg32 n v).isr = s.isr := rfl
@[simp] theorem State.setReg32_isrRead (s : State) (n : RegNum) (v : Long) : (s.setReg32 n v).isrRead = s.isrRead := rfl
@[simp] theorem State.setReg32_ipra (s : State) (n : RegNum) (v : Long) : (s.setReg32 n v).ipra = s.ipra := rfl
@[simp] theorem State.setReg32_iprb (s : State) (n : RegNum) (v : Long) : (s.setReg32 n v).iprb = s.iprb := rfl
@[simp] theorem State.setReg32_pstate (s : State) (n : RegNum) (v : Long) : (s.setReg32 n v).pstate = s.pstate := rfl
@[simp] theorem State.setReg32_irqInhibit (s : State) (n : RegNum) (v : Long) : (s.setReg32 n v).irqInhibit = s.irqInhibit := rfl
@[simp] theorem State.setReg32_resLow (s : State) (n : RegNum) (v : Long) : (s.setReg32 n v).resLow = s.resLow := rfl
@[simp] theorem State.setReg32_resDuring (s : State) (n : RegNum) (v : Long) : (s.setReg32 n v).resDuring = s.resDuring := rfl
@[simp] theorem State.setReg32_stbyLow (s : State) (n : RegNum) (v : Long) : (s.setReg32 n v).stbyLow = s.stbyLow := rfl
@[simp] theorem State.setReg32_pins (s : State) (n : RegNum) (v : Long) : (s.setReg32 n v).pins = s.pins := rfl
@[simp] theorem State.setReg32_pinsSeen (s : State) (n : RegNum) (v : Long) : (s.setReg32 n v).pinsSeen = s.pinsSeen := rfl
@[simp] theorem State.setReg32_nmiRequest (s : State) (n : RegNum) (v : Long) : (s.setReg32 n v).nmiRequest = s.nmiRequest := rfl
@[simp] theorem State.setReg32_moduleRequests (s : State) (n : RegNum) (v : Long) : (s.setReg32 n v).moduleRequests = s.moduleRequests := rfl
@[simp] theorem State.setReg32_nmiDuringTransfer (s : State) (n : RegNum) (v : Long) : (s.setReg32 n v).nmiDuringTransfer = s.nmiDuringTransfer := rfl
@[simp] theorem State.setReg32_draws (s : State) (n : RegNum) (v : Long) : (s.setReg32 n v).draws = s.draws := rfl

/-! ### `State.setReg16` -/

@[simp] theorem State.setReg16_er (s : State) (r : Reg16) (v : Word) : (s.setReg16 r v).er = s.er.set r.num.val (putWord (s.reg32 r.num) v r) := rfl
@[simp] theorem State.setReg16_pc (s : State) (r : Reg16) (v : Word) : (s.setReg16 r v).pc = s.pc := rfl
@[simp] theorem State.setReg16_ccr (s : State) (r : Reg16) (v : Word) : (s.setReg16 r v).ccr = s.ccr := rfl
@[simp] theorem State.setReg16_mem (s : State) (r : Reg16) (v : Word) : (s.setReg16 r v).mem = s.mem := rfl
@[simp] theorem State.setReg16_mcuMode (s : State) (r : Reg16) (v : Word) : (s.setReg16 r v).mcuMode = s.mcuMode := rfl
@[simp] theorem State.setReg16_product (s : State) (r : Reg16) (v : Word) : (s.setReg16 r v).product = s.product := rfl
@[simp] theorem State.setReg16_platform (s : State) (r : Reg16) (v : Word) : (s.setReg16 r v).platform = s.platform := rfl
@[simp] theorem State.setReg16_iprbLayout (s : State) (r : Reg16) (v : Word) : (s.setReg16 r v).iprbLayout = s.iprbLayout := rfl
@[simp] theorem State.setReg16_deviceAnswers (s : State) (r : Reg16) (v : Word) : (s.setReg16 r v).deviceAnswers = s.deviceAnswers := rfl
@[simp] theorem State.setReg16_deviceCalls (s : State) (r : Reg16) (v : Word) : (s.setReg16 r v).deviceCalls = s.deviceCalls := rfl
@[simp] theorem State.setReg16_syscr (s : State) (r : Reg16) (v : Word) : (s.setReg16 r v).syscr = s.syscr := rfl
@[simp] theorem State.setReg16_iscr (s : State) (r : Reg16) (v : Word) : (s.setReg16 r v).iscr = s.iscr := rfl
@[simp] theorem State.setReg16_ier (s : State) (r : Reg16) (v : Word) : (s.setReg16 r v).ier = s.ier := rfl
@[simp] theorem State.setReg16_isr (s : State) (r : Reg16) (v : Word) : (s.setReg16 r v).isr = s.isr := rfl
@[simp] theorem State.setReg16_isrRead (s : State) (r : Reg16) (v : Word) : (s.setReg16 r v).isrRead = s.isrRead := rfl
@[simp] theorem State.setReg16_ipra (s : State) (r : Reg16) (v : Word) : (s.setReg16 r v).ipra = s.ipra := rfl
@[simp] theorem State.setReg16_iprb (s : State) (r : Reg16) (v : Word) : (s.setReg16 r v).iprb = s.iprb := rfl
@[simp] theorem State.setReg16_pstate (s : State) (r : Reg16) (v : Word) : (s.setReg16 r v).pstate = s.pstate := rfl
@[simp] theorem State.setReg16_irqInhibit (s : State) (r : Reg16) (v : Word) : (s.setReg16 r v).irqInhibit = s.irqInhibit := rfl
@[simp] theorem State.setReg16_resLow (s : State) (r : Reg16) (v : Word) : (s.setReg16 r v).resLow = s.resLow := rfl
@[simp] theorem State.setReg16_resDuring (s : State) (r : Reg16) (v : Word) : (s.setReg16 r v).resDuring = s.resDuring := rfl
@[simp] theorem State.setReg16_stbyLow (s : State) (r : Reg16) (v : Word) : (s.setReg16 r v).stbyLow = s.stbyLow := rfl
@[simp] theorem State.setReg16_pins (s : State) (r : Reg16) (v : Word) : (s.setReg16 r v).pins = s.pins := rfl
@[simp] theorem State.setReg16_pinsSeen (s : State) (r : Reg16) (v : Word) : (s.setReg16 r v).pinsSeen = s.pinsSeen := rfl
@[simp] theorem State.setReg16_nmiRequest (s : State) (r : Reg16) (v : Word) : (s.setReg16 r v).nmiRequest = s.nmiRequest := rfl
@[simp] theorem State.setReg16_moduleRequests (s : State) (r : Reg16) (v : Word) : (s.setReg16 r v).moduleRequests = s.moduleRequests := rfl
@[simp] theorem State.setReg16_nmiDuringTransfer (s : State) (r : Reg16) (v : Word) : (s.setReg16 r v).nmiDuringTransfer = s.nmiDuringTransfer := rfl
@[simp] theorem State.setReg16_draws (s : State) (r : Reg16) (v : Word) : (s.setReg16 r v).draws = s.draws := rfl

/-! ### `State.setReg8` -/

@[simp] theorem State.setReg8_er (s : State) (r : Reg8) (v : Byte) : (s.setReg8 r v).er = s.er.set r.num.val (putByte (s.reg32 r.num) v r) := rfl
@[simp] theorem State.setReg8_pc (s : State) (r : Reg8) (v : Byte) : (s.setReg8 r v).pc = s.pc := rfl
@[simp] theorem State.setReg8_ccr (s : State) (r : Reg8) (v : Byte) : (s.setReg8 r v).ccr = s.ccr := rfl
@[simp] theorem State.setReg8_mem (s : State) (r : Reg8) (v : Byte) : (s.setReg8 r v).mem = s.mem := rfl
@[simp] theorem State.setReg8_mcuMode (s : State) (r : Reg8) (v : Byte) : (s.setReg8 r v).mcuMode = s.mcuMode := rfl
@[simp] theorem State.setReg8_product (s : State) (r : Reg8) (v : Byte) : (s.setReg8 r v).product = s.product := rfl
@[simp] theorem State.setReg8_platform (s : State) (r : Reg8) (v : Byte) : (s.setReg8 r v).platform = s.platform := rfl
@[simp] theorem State.setReg8_iprbLayout (s : State) (r : Reg8) (v : Byte) : (s.setReg8 r v).iprbLayout = s.iprbLayout := rfl
@[simp] theorem State.setReg8_deviceAnswers (s : State) (r : Reg8) (v : Byte) : (s.setReg8 r v).deviceAnswers = s.deviceAnswers := rfl
@[simp] theorem State.setReg8_deviceCalls (s : State) (r : Reg8) (v : Byte) : (s.setReg8 r v).deviceCalls = s.deviceCalls := rfl
@[simp] theorem State.setReg8_syscr (s : State) (r : Reg8) (v : Byte) : (s.setReg8 r v).syscr = s.syscr := rfl
@[simp] theorem State.setReg8_iscr (s : State) (r : Reg8) (v : Byte) : (s.setReg8 r v).iscr = s.iscr := rfl
@[simp] theorem State.setReg8_ier (s : State) (r : Reg8) (v : Byte) : (s.setReg8 r v).ier = s.ier := rfl
@[simp] theorem State.setReg8_isr (s : State) (r : Reg8) (v : Byte) : (s.setReg8 r v).isr = s.isr := rfl
@[simp] theorem State.setReg8_isrRead (s : State) (r : Reg8) (v : Byte) : (s.setReg8 r v).isrRead = s.isrRead := rfl
@[simp] theorem State.setReg8_ipra (s : State) (r : Reg8) (v : Byte) : (s.setReg8 r v).ipra = s.ipra := rfl
@[simp] theorem State.setReg8_iprb (s : State) (r : Reg8) (v : Byte) : (s.setReg8 r v).iprb = s.iprb := rfl
@[simp] theorem State.setReg8_pstate (s : State) (r : Reg8) (v : Byte) : (s.setReg8 r v).pstate = s.pstate := rfl
@[simp] theorem State.setReg8_irqInhibit (s : State) (r : Reg8) (v : Byte) : (s.setReg8 r v).irqInhibit = s.irqInhibit := rfl
@[simp] theorem State.setReg8_resLow (s : State) (r : Reg8) (v : Byte) : (s.setReg8 r v).resLow = s.resLow := rfl
@[simp] theorem State.setReg8_resDuring (s : State) (r : Reg8) (v : Byte) : (s.setReg8 r v).resDuring = s.resDuring := rfl
@[simp] theorem State.setReg8_stbyLow (s : State) (r : Reg8) (v : Byte) : (s.setReg8 r v).stbyLow = s.stbyLow := rfl
@[simp] theorem State.setReg8_pins (s : State) (r : Reg8) (v : Byte) : (s.setReg8 r v).pins = s.pins := rfl
@[simp] theorem State.setReg8_pinsSeen (s : State) (r : Reg8) (v : Byte) : (s.setReg8 r v).pinsSeen = s.pinsSeen := rfl
@[simp] theorem State.setReg8_nmiRequest (s : State) (r : Reg8) (v : Byte) : (s.setReg8 r v).nmiRequest = s.nmiRequest := rfl
@[simp] theorem State.setReg8_moduleRequests (s : State) (r : Reg8) (v : Byte) : (s.setReg8 r v).moduleRequests = s.moduleRequests := rfl
@[simp] theorem State.setReg8_nmiDuringTransfer (s : State) (r : Reg8) (v : Byte) : (s.setReg8 r v).nmiDuringTransfer = s.nmiDuringTransfer := rfl
@[simp] theorem State.setReg8_draws (s : State) (r : Reg8) (v : Byte) : (s.setReg8 r v).draws = s.draws := rfl

/-! ### `State.setCcr` -/

@[simp] theorem State.setCcr_er (s : State) (v : Byte) : (s.setCcr v).er = s.er := rfl
@[simp] theorem State.setCcr_pc (s : State) (v : Byte) : (s.setCcr v).pc = s.pc := rfl
@[simp] theorem State.setCcr_ccr (s : State) (v : Byte) : (s.setCcr v).ccr = v := rfl
@[simp] theorem State.setCcr_mem (s : State) (v : Byte) : (s.setCcr v).mem = s.mem := rfl
@[simp] theorem State.setCcr_mcuMode (s : State) (v : Byte) : (s.setCcr v).mcuMode = s.mcuMode := rfl
@[simp] theorem State.setCcr_product (s : State) (v : Byte) : (s.setCcr v).product = s.product := rfl
@[simp] theorem State.setCcr_platform (s : State) (v : Byte) : (s.setCcr v).platform = s.platform := rfl
@[simp] theorem State.setCcr_iprbLayout (s : State) (v : Byte) : (s.setCcr v).iprbLayout = s.iprbLayout := rfl
@[simp] theorem State.setCcr_deviceAnswers (s : State) (v : Byte) : (s.setCcr v).deviceAnswers = s.deviceAnswers := rfl
@[simp] theorem State.setCcr_deviceCalls (s : State) (v : Byte) : (s.setCcr v).deviceCalls = s.deviceCalls := rfl
@[simp] theorem State.setCcr_syscr (s : State) (v : Byte) : (s.setCcr v).syscr = s.syscr := rfl
@[simp] theorem State.setCcr_iscr (s : State) (v : Byte) : (s.setCcr v).iscr = s.iscr := rfl
@[simp] theorem State.setCcr_ier (s : State) (v : Byte) : (s.setCcr v).ier = s.ier := rfl
@[simp] theorem State.setCcr_isr (s : State) (v : Byte) : (s.setCcr v).isr = s.isr := rfl
@[simp] theorem State.setCcr_isrRead (s : State) (v : Byte) : (s.setCcr v).isrRead = s.isrRead := rfl
@[simp] theorem State.setCcr_ipra (s : State) (v : Byte) : (s.setCcr v).ipra = s.ipra := rfl
@[simp] theorem State.setCcr_iprb (s : State) (v : Byte) : (s.setCcr v).iprb = s.iprb := rfl
@[simp] theorem State.setCcr_pstate (s : State) (v : Byte) : (s.setCcr v).pstate = s.pstate := rfl
@[simp] theorem State.setCcr_irqInhibit (s : State) (v : Byte) : (s.setCcr v).irqInhibit = s.irqInhibit := rfl
@[simp] theorem State.setCcr_resLow (s : State) (v : Byte) : (s.setCcr v).resLow = s.resLow := rfl
@[simp] theorem State.setCcr_resDuring (s : State) (v : Byte) : (s.setCcr v).resDuring = s.resDuring := rfl
@[simp] theorem State.setCcr_stbyLow (s : State) (v : Byte) : (s.setCcr v).stbyLow = s.stbyLow := rfl
@[simp] theorem State.setCcr_pins (s : State) (v : Byte) : (s.setCcr v).pins = s.pins := rfl
@[simp] theorem State.setCcr_pinsSeen (s : State) (v : Byte) : (s.setCcr v).pinsSeen = s.pinsSeen := rfl
@[simp] theorem State.setCcr_nmiRequest (s : State) (v : Byte) : (s.setCcr v).nmiRequest = s.nmiRequest := rfl
@[simp] theorem State.setCcr_moduleRequests (s : State) (v : Byte) : (s.setCcr v).moduleRequests = s.moduleRequests := rfl
@[simp] theorem State.setCcr_nmiDuringTransfer (s : State) (v : Byte) : (s.setCcr v).nmiDuringTransfer = s.nmiDuringTransfer := rfl
@[simp] theorem State.setCcr_draws (s : State) (v : Byte) : (s.setCcr v).draws = s.draws := rfl

/-! ### `State.setPc` -/

@[simp] theorem State.setPc_er (s : State) (a : Addr) : (s.setPc a).er = s.er := rfl
@[simp] theorem State.setPc_pc (s : State) (a : Addr) : (s.setPc a).pc = evenAddr a := rfl
@[simp] theorem State.setPc_ccr (s : State) (a : Addr) : (s.setPc a).ccr = s.ccr := rfl
@[simp] theorem State.setPc_mem (s : State) (a : Addr) : (s.setPc a).mem = s.mem := rfl
@[simp] theorem State.setPc_mcuMode (s : State) (a : Addr) : (s.setPc a).mcuMode = s.mcuMode := rfl
@[simp] theorem State.setPc_product (s : State) (a : Addr) : (s.setPc a).product = s.product := rfl
@[simp] theorem State.setPc_platform (s : State) (a : Addr) : (s.setPc a).platform = s.platform := rfl
@[simp] theorem State.setPc_iprbLayout (s : State) (a : Addr) : (s.setPc a).iprbLayout = s.iprbLayout := rfl
@[simp] theorem State.setPc_deviceAnswers (s : State) (a : Addr) : (s.setPc a).deviceAnswers = s.deviceAnswers := rfl
@[simp] theorem State.setPc_deviceCalls (s : State) (a : Addr) : (s.setPc a).deviceCalls = s.deviceCalls := rfl
@[simp] theorem State.setPc_syscr (s : State) (a : Addr) : (s.setPc a).syscr = s.syscr := rfl
@[simp] theorem State.setPc_iscr (s : State) (a : Addr) : (s.setPc a).iscr = s.iscr := rfl
@[simp] theorem State.setPc_ier (s : State) (a : Addr) : (s.setPc a).ier = s.ier := rfl
@[simp] theorem State.setPc_isr (s : State) (a : Addr) : (s.setPc a).isr = s.isr := rfl
@[simp] theorem State.setPc_isrRead (s : State) (a : Addr) : (s.setPc a).isrRead = s.isrRead := rfl
@[simp] theorem State.setPc_ipra (s : State) (a : Addr) : (s.setPc a).ipra = s.ipra := rfl
@[simp] theorem State.setPc_iprb (s : State) (a : Addr) : (s.setPc a).iprb = s.iprb := rfl
@[simp] theorem State.setPc_pstate (s : State) (a : Addr) : (s.setPc a).pstate = s.pstate := rfl
@[simp] theorem State.setPc_irqInhibit (s : State) (a : Addr) : (s.setPc a).irqInhibit = s.irqInhibit := rfl
@[simp] theorem State.setPc_resLow (s : State) (a : Addr) : (s.setPc a).resLow = s.resLow := rfl
@[simp] theorem State.setPc_resDuring (s : State) (a : Addr) : (s.setPc a).resDuring = s.resDuring := rfl
@[simp] theorem State.setPc_stbyLow (s : State) (a : Addr) : (s.setPc a).stbyLow = s.stbyLow := rfl
@[simp] theorem State.setPc_pins (s : State) (a : Addr) : (s.setPc a).pins = s.pins := rfl
@[simp] theorem State.setPc_pinsSeen (s : State) (a : Addr) : (s.setPc a).pinsSeen = s.pinsSeen := rfl
@[simp] theorem State.setPc_nmiRequest (s : State) (a : Addr) : (s.setPc a).nmiRequest = s.nmiRequest := rfl
@[simp] theorem State.setPc_moduleRequests (s : State) (a : Addr) : (s.setPc a).moduleRequests = s.moduleRequests := rfl
@[simp] theorem State.setPc_nmiDuringTransfer (s : State) (a : Addr) : (s.setPc a).nmiDuringTransfer = s.nmiDuringTransfer := rfl
@[simp] theorem State.setPc_draws (s : State) (a : Addr) : (s.setPc a).draws = s.draws := rfl

/-! ### `State.advance` -/

@[simp] theorem State.advance_er (s : State) (len : Nat) : (s.advance len).er = s.er := rfl
@[simp] theorem State.advance_pc (s : State) (len : Nat) : (s.advance len).pc = evenAddr (s.pc + BitVec.ofNat 24 len) := rfl
@[simp] theorem State.advance_ccr (s : State) (len : Nat) : (s.advance len).ccr = s.ccr := rfl
@[simp] theorem State.advance_mem (s : State) (len : Nat) : (s.advance len).mem = s.mem := rfl
@[simp] theorem State.advance_mcuMode (s : State) (len : Nat) : (s.advance len).mcuMode = s.mcuMode := rfl
@[simp] theorem State.advance_product (s : State) (len : Nat) : (s.advance len).product = s.product := rfl
@[simp] theorem State.advance_platform (s : State) (len : Nat) : (s.advance len).platform = s.platform := rfl
@[simp] theorem State.advance_iprbLayout (s : State) (len : Nat) : (s.advance len).iprbLayout = s.iprbLayout := rfl
@[simp] theorem State.advance_deviceAnswers (s : State) (len : Nat) : (s.advance len).deviceAnswers = s.deviceAnswers := rfl
@[simp] theorem State.advance_deviceCalls (s : State) (len : Nat) : (s.advance len).deviceCalls = s.deviceCalls := rfl
@[simp] theorem State.advance_syscr (s : State) (len : Nat) : (s.advance len).syscr = s.syscr := rfl
@[simp] theorem State.advance_iscr (s : State) (len : Nat) : (s.advance len).iscr = s.iscr := rfl
@[simp] theorem State.advance_ier (s : State) (len : Nat) : (s.advance len).ier = s.ier := rfl
@[simp] theorem State.advance_isr (s : State) (len : Nat) : (s.advance len).isr = s.isr := rfl
@[simp] theorem State.advance_isrRead (s : State) (len : Nat) : (s.advance len).isrRead = s.isrRead := rfl
@[simp] theorem State.advance_ipra (s : State) (len : Nat) : (s.advance len).ipra = s.ipra := rfl
@[simp] theorem State.advance_iprb (s : State) (len : Nat) : (s.advance len).iprb = s.iprb := rfl
@[simp] theorem State.advance_pstate (s : State) (len : Nat) : (s.advance len).pstate = s.pstate := rfl
@[simp] theorem State.advance_irqInhibit (s : State) (len : Nat) : (s.advance len).irqInhibit = s.irqInhibit := rfl
@[simp] theorem State.advance_resLow (s : State) (len : Nat) : (s.advance len).resLow = s.resLow := rfl
@[simp] theorem State.advance_resDuring (s : State) (len : Nat) : (s.advance len).resDuring = s.resDuring := rfl
@[simp] theorem State.advance_stbyLow (s : State) (len : Nat) : (s.advance len).stbyLow = s.stbyLow := rfl
@[simp] theorem State.advance_pins (s : State) (len : Nat) : (s.advance len).pins = s.pins := rfl
@[simp] theorem State.advance_pinsSeen (s : State) (len : Nat) : (s.advance len).pinsSeen = s.pinsSeen := rfl
@[simp] theorem State.advance_nmiRequest (s : State) (len : Nat) : (s.advance len).nmiRequest = s.nmiRequest := rfl
@[simp] theorem State.advance_moduleRequests (s : State) (len : Nat) : (s.advance len).moduleRequests = s.moduleRequests := rfl
@[simp] theorem State.advance_nmiDuringTransfer (s : State) (len : Nat) : (s.advance len).nmiDuringTransfer = s.nmiDuringTransfer := rfl
@[simp] theorem State.advance_draws (s : State) (len : Nat) : (s.advance len).draws = s.draws := rfl

/-! ### `State.drawn` -/

@[simp] theorem State.drawn_er (s : State) (k : Nat) : (s.drawn k).er = s.er := rfl
@[simp] theorem State.drawn_pc (s : State) (k : Nat) : (s.drawn k).pc = s.pc := rfl
@[simp] theorem State.drawn_ccr (s : State) (k : Nat) : (s.drawn k).ccr = s.ccr := rfl
@[simp] theorem State.drawn_mem (s : State) (k : Nat) : (s.drawn k).mem = s.mem := rfl
@[simp] theorem State.drawn_mcuMode (s : State) (k : Nat) : (s.drawn k).mcuMode = s.mcuMode := rfl
@[simp] theorem State.drawn_product (s : State) (k : Nat) : (s.drawn k).product = s.product := rfl
@[simp] theorem State.drawn_platform (s : State) (k : Nat) : (s.drawn k).platform = s.platform := rfl
@[simp] theorem State.drawn_iprbLayout (s : State) (k : Nat) : (s.drawn k).iprbLayout = s.iprbLayout := rfl
@[simp] theorem State.drawn_deviceAnswers (s : State) (k : Nat) : (s.drawn k).deviceAnswers = s.deviceAnswers := rfl
@[simp] theorem State.drawn_deviceCalls (s : State) (k : Nat) : (s.drawn k).deviceCalls = s.deviceCalls := rfl
@[simp] theorem State.drawn_syscr (s : State) (k : Nat) : (s.drawn k).syscr = s.syscr := rfl
@[simp] theorem State.drawn_iscr (s : State) (k : Nat) : (s.drawn k).iscr = s.iscr := rfl
@[simp] theorem State.drawn_ier (s : State) (k : Nat) : (s.drawn k).ier = s.ier := rfl
@[simp] theorem State.drawn_isr (s : State) (k : Nat) : (s.drawn k).isr = s.isr := rfl
@[simp] theorem State.drawn_isrRead (s : State) (k : Nat) : (s.drawn k).isrRead = s.isrRead := rfl
@[simp] theorem State.drawn_ipra (s : State) (k : Nat) : (s.drawn k).ipra = s.ipra := rfl
@[simp] theorem State.drawn_iprb (s : State) (k : Nat) : (s.drawn k).iprb = s.iprb := rfl
@[simp] theorem State.drawn_pstate (s : State) (k : Nat) : (s.drawn k).pstate = s.pstate := rfl
@[simp] theorem State.drawn_irqInhibit (s : State) (k : Nat) : (s.drawn k).irqInhibit = s.irqInhibit := rfl
@[simp] theorem State.drawn_resLow (s : State) (k : Nat) : (s.drawn k).resLow = s.resLow := rfl
@[simp] theorem State.drawn_resDuring (s : State) (k : Nat) : (s.drawn k).resDuring = s.resDuring := rfl
@[simp] theorem State.drawn_stbyLow (s : State) (k : Nat) : (s.drawn k).stbyLow = s.stbyLow := rfl
@[simp] theorem State.drawn_pins (s : State) (k : Nat) : (s.drawn k).pins = s.pins := rfl
@[simp] theorem State.drawn_pinsSeen (s : State) (k : Nat) : (s.drawn k).pinsSeen = s.pinsSeen := rfl
@[simp] theorem State.drawn_nmiRequest (s : State) (k : Nat) : (s.drawn k).nmiRequest = s.nmiRequest := rfl
@[simp] theorem State.drawn_moduleRequests (s : State) (k : Nat) : (s.drawn k).moduleRequests = s.moduleRequests := rfl
@[simp] theorem State.drawn_nmiDuringTransfer (s : State) (k : Nat) : (s.drawn k).nmiDuringTransfer = s.nmiDuringTransfer := rfl
@[simp] theorem State.drawn_draws (s : State) (k : Nat) : (s.drawn k).draws = s.draws + k := rfl

/-! ### `State.setPstate` -/

@[simp] theorem State.setPstate_er (s : State) (p : ProcessingState) : (s.setPstate p).er = s.er := rfl
@[simp] theorem State.setPstate_pc (s : State) (p : ProcessingState) : (s.setPstate p).pc = s.pc := rfl
@[simp] theorem State.setPstate_ccr (s : State) (p : ProcessingState) : (s.setPstate p).ccr = s.ccr := rfl
@[simp] theorem State.setPstate_mem (s : State) (p : ProcessingState) : (s.setPstate p).mem = s.mem := rfl
@[simp] theorem State.setPstate_mcuMode (s : State) (p : ProcessingState) : (s.setPstate p).mcuMode = s.mcuMode := rfl
@[simp] theorem State.setPstate_product (s : State) (p : ProcessingState) : (s.setPstate p).product = s.product := rfl
@[simp] theorem State.setPstate_platform (s : State) (p : ProcessingState) : (s.setPstate p).platform = s.platform := rfl
@[simp] theorem State.setPstate_iprbLayout (s : State) (p : ProcessingState) : (s.setPstate p).iprbLayout = s.iprbLayout := rfl
@[simp] theorem State.setPstate_deviceAnswers (s : State) (p : ProcessingState) : (s.setPstate p).deviceAnswers = s.deviceAnswers := rfl
@[simp] theorem State.setPstate_deviceCalls (s : State) (p : ProcessingState) : (s.setPstate p).deviceCalls = s.deviceCalls := rfl
@[simp] theorem State.setPstate_syscr (s : State) (p : ProcessingState) : (s.setPstate p).syscr = s.syscr := rfl
@[simp] theorem State.setPstate_iscr (s : State) (p : ProcessingState) : (s.setPstate p).iscr = s.iscr := rfl
@[simp] theorem State.setPstate_ier (s : State) (p : ProcessingState) : (s.setPstate p).ier = s.ier := rfl
@[simp] theorem State.setPstate_isr (s : State) (p : ProcessingState) : (s.setPstate p).isr = s.isr := rfl
@[simp] theorem State.setPstate_isrRead (s : State) (p : ProcessingState) : (s.setPstate p).isrRead = s.isrRead := rfl
@[simp] theorem State.setPstate_ipra (s : State) (p : ProcessingState) : (s.setPstate p).ipra = s.ipra := rfl
@[simp] theorem State.setPstate_iprb (s : State) (p : ProcessingState) : (s.setPstate p).iprb = s.iprb := rfl
@[simp] theorem State.setPstate_pstate (s : State) (p : ProcessingState) : (s.setPstate p).pstate = p := rfl
@[simp] theorem State.setPstate_irqInhibit (s : State) (p : ProcessingState) : (s.setPstate p).irqInhibit = s.irqInhibit := rfl
@[simp] theorem State.setPstate_resLow (s : State) (p : ProcessingState) : (s.setPstate p).resLow = s.resLow := rfl
@[simp] theorem State.setPstate_resDuring (s : State) (p : ProcessingState) : (s.setPstate p).resDuring = s.resDuring := rfl
@[simp] theorem State.setPstate_stbyLow (s : State) (p : ProcessingState) : (s.setPstate p).stbyLow = s.stbyLow := rfl
@[simp] theorem State.setPstate_pins (s : State) (p : ProcessingState) : (s.setPstate p).pins = s.pins := rfl
@[simp] theorem State.setPstate_pinsSeen (s : State) (p : ProcessingState) : (s.setPstate p).pinsSeen = s.pinsSeen := rfl
@[simp] theorem State.setPstate_nmiRequest (s : State) (p : ProcessingState) : (s.setPstate p).nmiRequest = s.nmiRequest := rfl
@[simp] theorem State.setPstate_moduleRequests (s : State) (p : ProcessingState) : (s.setPstate p).moduleRequests = s.moduleRequests := rfl
@[simp] theorem State.setPstate_nmiDuringTransfer (s : State) (p : ProcessingState) : (s.setPstate p).nmiDuringTransfer = s.nmiDuringTransfer := rfl
@[simp] theorem State.setPstate_draws (s : State) (p : ProcessingState) : (s.setPstate p).draws = s.draws := rfl

/-! ### `State.holdOff` -/

@[simp] theorem State.holdOff_er (s : State) : (s.holdOff).er = s.er := rfl
@[simp] theorem State.holdOff_pc (s : State) : (s.holdOff).pc = s.pc := rfl
@[simp] theorem State.holdOff_ccr (s : State) : (s.holdOff).ccr = s.ccr := rfl
@[simp] theorem State.holdOff_mem (s : State) : (s.holdOff).mem = s.mem := rfl
@[simp] theorem State.holdOff_mcuMode (s : State) : (s.holdOff).mcuMode = s.mcuMode := rfl
@[simp] theorem State.holdOff_product (s : State) : (s.holdOff).product = s.product := rfl
@[simp] theorem State.holdOff_platform (s : State) : (s.holdOff).platform = s.platform := rfl
@[simp] theorem State.holdOff_iprbLayout (s : State) : (s.holdOff).iprbLayout = s.iprbLayout := rfl
@[simp] theorem State.holdOff_deviceAnswers (s : State) : (s.holdOff).deviceAnswers = s.deviceAnswers := rfl
@[simp] theorem State.holdOff_deviceCalls (s : State) : (s.holdOff).deviceCalls = s.deviceCalls := rfl
@[simp] theorem State.holdOff_syscr (s : State) : (s.holdOff).syscr = s.syscr := rfl
@[simp] theorem State.holdOff_iscr (s : State) : (s.holdOff).iscr = s.iscr := rfl
@[simp] theorem State.holdOff_ier (s : State) : (s.holdOff).ier = s.ier := rfl
@[simp] theorem State.holdOff_isr (s : State) : (s.holdOff).isr = s.isr := rfl
@[simp] theorem State.holdOff_isrRead (s : State) : (s.holdOff).isrRead = s.isrRead := rfl
@[simp] theorem State.holdOff_ipra (s : State) : (s.holdOff).ipra = s.ipra := rfl
@[simp] theorem State.holdOff_iprb (s : State) : (s.holdOff).iprb = s.iprb := rfl
@[simp] theorem State.holdOff_pstate (s : State) : (s.holdOff).pstate = s.pstate := rfl
@[simp] theorem State.holdOff_irqInhibit (s : State) : (s.holdOff).irqInhibit = true := rfl
@[simp] theorem State.holdOff_resLow (s : State) : (s.holdOff).resLow = s.resLow := rfl
@[simp] theorem State.holdOff_resDuring (s : State) : (s.holdOff).resDuring = s.resDuring := rfl
@[simp] theorem State.holdOff_stbyLow (s : State) : (s.holdOff).stbyLow = s.stbyLow := rfl
@[simp] theorem State.holdOff_pins (s : State) : (s.holdOff).pins = s.pins := rfl
@[simp] theorem State.holdOff_pinsSeen (s : State) : (s.holdOff).pinsSeen = s.pinsSeen := rfl
@[simp] theorem State.holdOff_nmiRequest (s : State) : (s.holdOff).nmiRequest = s.nmiRequest := rfl
@[simp] theorem State.holdOff_moduleRequests (s : State) : (s.holdOff).moduleRequests = s.moduleRequests := rfl
@[simp] theorem State.holdOff_nmiDuringTransfer (s : State) : (s.holdOff).nmiDuringTransfer = s.nmiDuringTransfer := rfl
@[simp] theorem State.holdOff_draws (s : State) : (s.holdOff).draws = s.draws := rfl

/-! ### `State.freeCells` -/

@[simp] theorem State.freeCells_er (s : State) (which : Nat → Bool) (n a : Nat) : (s.freeCells which n a).er = s.er := rfl
@[simp] theorem State.freeCells_pc (s : State) (which : Nat → Bool) (n a : Nat) : (s.freeCells which n a).pc = s.pc := rfl
@[simp] theorem State.freeCells_ccr (s : State) (which : Nat → Bool) (n a : Nat) : (s.freeCells which n a).ccr = s.ccr := rfl
@[simp] theorem State.freeCells_mem (s : State) (which : Nat → Bool) (n a : Nat) :
    (s.freeCells which n a).mem =
      Memory.scramble which (fun p => (Config.freeValue (s.draws + (p - a))).extractLsb' 0 8) n a s.mem := rfl
@[simp] theorem State.freeCells_mcuMode (s : State) (which : Nat → Bool) (n a : Nat) :
    (s.freeCells which n a).mcuMode = s.mcuMode := rfl
@[simp] theorem State.freeCells_product (s : State) (which : Nat → Bool) (n a : Nat) :
    (s.freeCells which n a).product = s.product := rfl
@[simp] theorem State.freeCells_platform (s : State) (which : Nat → Bool) (n a : Nat) :
    (s.freeCells which n a).platform = s.platform := rfl
@[simp] theorem State.freeCells_iprbLayout (s : State) (which : Nat → Bool) (n a : Nat) :
    (s.freeCells which n a).iprbLayout = s.iprbLayout := rfl
@[simp] theorem State.freeCells_deviceAnswers (s : State) (which : Nat → Bool) (n a : Nat) :
    (s.freeCells which n a).deviceAnswers = s.deviceAnswers := rfl
@[simp] theorem State.freeCells_deviceCalls (s : State) (which : Nat → Bool) (n a : Nat) :
    (s.freeCells which n a).deviceCalls = s.deviceCalls := rfl
@[simp] theorem State.freeCells_syscr (s : State) (which : Nat → Bool) (n a : Nat) :
    (s.freeCells which n a).syscr = s.syscr := rfl
@[simp] theorem State.freeCells_iscr (s : State) (which : Nat → Bool) (n a : Nat) : (s.freeCells which n a).iscr = s.iscr := rfl
@[simp] theorem State.freeCells_ier (s : State) (which : Nat → Bool) (n a : Nat) : (s.freeCells which n a).ier = s.ier := rfl
@[simp] theorem State.freeCells_isr (s : State) (which : Nat → Bool) (n a : Nat) : (s.freeCells which n a).isr = s.isr := rfl
@[simp] theorem State.freeCells_isrRead (s : State) (which : Nat → Bool) (n a : Nat) :
    (s.freeCells which n a).isrRead = s.isrRead := rfl
@[simp] theorem State.freeCells_ipra (s : State) (which : Nat → Bool) (n a : Nat) : (s.freeCells which n a).ipra = s.ipra := rfl
@[simp] theorem State.freeCells_iprb (s : State) (which : Nat → Bool) (n a : Nat) : (s.freeCells which n a).iprb = s.iprb := rfl
@[simp] theorem State.freeCells_pstate (s : State) (which : Nat → Bool) (n a : Nat) :
    (s.freeCells which n a).pstate = s.pstate := rfl
@[simp] theorem State.freeCells_irqInhibit (s : State) (which : Nat → Bool) (n a : Nat) :
    (s.freeCells which n a).irqInhibit = s.irqInhibit := rfl
@[simp] theorem State.freeCells_resLow (s : State) (which : Nat → Bool) (n a : Nat) :
    (s.freeCells which n a).resLow = s.resLow := rfl
@[simp] theorem State.freeCells_resDuring (s : State) (which : Nat → Bool) (n a : Nat) :
    (s.freeCells which n a).resDuring = s.resDuring := rfl
@[simp] theorem State.freeCells_stbyLow (s : State) (which : Nat → Bool) (n a : Nat) :
    (s.freeCells which n a).stbyLow = s.stbyLow := rfl
@[simp] theorem State.freeCells_pins (s : State) (which : Nat → Bool) (n a : Nat) : (s.freeCells which n a).pins = s.pins := rfl
@[simp] theorem State.freeCells_pinsSeen (s : State) (which : Nat → Bool) (n a : Nat) :
    (s.freeCells which n a).pinsSeen = s.pinsSeen := rfl
@[simp] theorem State.freeCells_nmiRequest (s : State) (which : Nat → Bool) (n a : Nat) :
    (s.freeCells which n a).nmiRequest = s.nmiRequest := rfl
@[simp] theorem State.freeCells_moduleRequests (s : State) (which : Nat → Bool) (n a : Nat) :
    (s.freeCells which n a).moduleRequests = s.moduleRequests := rfl
@[simp] theorem State.freeCells_nmiDuringTransfer (s : State) (which : Nat → Bool) (n a : Nat) :
    (s.freeCells which n a).nmiDuringTransfer = s.nmiDuringTransfer := rfl
@[simp] theorem State.freeCells_draws (s : State) (which : Nat → Bool) (n a : Nat) :
    (s.freeCells which n a).draws = s.draws + n := rfl

/-! ### `State.resetModules` -/

@[simp] theorem State.resetModules_er (s : State) (ports : Bool) : (s.resetModules ports).er = s.er := rfl
@[simp] theorem State.resetModules_pc (s : State) (ports : Bool) : (s.resetModules ports).pc = s.pc := rfl
@[simp] theorem State.resetModules_ccr (s : State) (ports : Bool) : (s.resetModules ports).ccr = s.ccr := rfl
@[simp] theorem State.resetModules_mem (s : State) (ports : Bool) :
    (s.resetModules ports).mem = (s.freeCells (s.moduleCell ports) s.ioWindow (topBase s.mcuMode + 0xFF1C)).mem := rfl
@[simp] theorem State.resetModules_mcuMode (s : State) (ports : Bool) : (s.resetModules ports).mcuMode = s.mcuMode := rfl
@[simp] theorem State.resetModules_product (s : State) (ports : Bool) : (s.resetModules ports).product = s.product := rfl
@[simp] theorem State.resetModules_platform (s : State) (ports : Bool) : (s.resetModules ports).platform = s.platform := rfl
@[simp] theorem State.resetModules_iprbLayout (s : State) (ports : Bool) : (s.resetModules ports).iprbLayout = s.iprbLayout := rfl
@[simp] theorem State.resetModules_deviceAnswers (s : State) (ports : Bool) :
    (s.resetModules ports).deviceAnswers = s.deviceAnswers := rfl
@[simp] theorem State.resetModules_deviceCalls (s : State) (ports : Bool) :
    (s.resetModules ports).deviceCalls = s.deviceCalls := rfl
@[simp] theorem State.resetModules_syscr (s : State) (ports : Bool) : (s.resetModules ports).syscr = s.syscr := rfl
@[simp] theorem State.resetModules_iscr (s : State) (ports : Bool) : (s.resetModules ports).iscr = 0#8 := rfl
@[simp] theorem State.resetModules_ier (s : State) (ports : Bool) : (s.resetModules ports).ier = s.ier := rfl
@[simp] theorem State.resetModules_isr (s : State) (ports : Bool) : (s.resetModules ports).isr = 0#8 := rfl
@[simp] theorem State.resetModules_isrRead (s : State) (ports : Bool) : (s.resetModules ports).isrRead = 0#8 := rfl
@[simp] theorem State.resetModules_ipra (s : State) (ports : Bool) : (s.resetModules ports).ipra = s.ipra := rfl
@[simp] theorem State.resetModules_iprb (s : State) (ports : Bool) : (s.resetModules ports).iprb = 0#8 := rfl
@[simp] theorem State.resetModules_pstate (s : State) (ports : Bool) : (s.resetModules ports).pstate = s.pstate := rfl
@[simp] theorem State.resetModules_irqInhibit (s : State) (ports : Bool) : (s.resetModules ports).irqInhibit = s.irqInhibit := rfl
@[simp] theorem State.resetModules_resLow (s : State) (ports : Bool) : (s.resetModules ports).resLow = s.resLow := rfl
@[simp] theorem State.resetModules_resDuring (s : State) (ports : Bool) : (s.resetModules ports).resDuring = s.resDuring := rfl
@[simp] theorem State.resetModules_stbyLow (s : State) (ports : Bool) : (s.resetModules ports).stbyLow = s.stbyLow := rfl
@[simp] theorem State.resetModules_pins (s : State) (ports : Bool) : (s.resetModules ports).pins = s.pins := rfl
@[simp] theorem State.resetModules_pinsSeen (s : State) (ports : Bool) : (s.resetModules ports).pinsSeen = s.pinsSeen := rfl
@[simp] theorem State.resetModules_nmiRequest (s : State) (ports : Bool) : (s.resetModules ports).nmiRequest = s.nmiRequest := rfl
@[simp] theorem State.resetModules_moduleRequests (s : State) (ports : Bool) : (s.resetModules ports).moduleRequests = [] := rfl
@[simp] theorem State.resetModules_nmiDuringTransfer (s : State) (ports : Bool) :
    (s.resetModules ports).nmiDuringTransfer = s.nmiDuringTransfer := rfl
@[simp] theorem State.resetModules_draws (s : State) (ports : Bool) : (s.resetModules ports).draws = s.draws + s.ioWindow := rfl

/-! ### `State.initialiseControl` -/

@[simp] theorem State.initialiseControl_er (s : State) : (s.initialiseControl).er = s.er := rfl
@[simp] theorem State.initialiseControl_pc (s : State) : (s.initialiseControl).pc = s.pc := rfl
@[simp] theorem State.initialiseControl_ccr (s : State) : (s.initialiseControl).ccr = s.ccr := rfl
@[simp] theorem State.initialiseControl_mem (s : State) : (s.initialiseControl).mem = (s.resetModules true).mem := rfl
@[simp] theorem State.initialiseControl_mcuMode (s : State) : (s.initialiseControl).mcuMode = s.mcuMode := rfl
@[simp] theorem State.initialiseControl_product (s : State) : (s.initialiseControl).product = s.product := rfl
@[simp] theorem State.initialiseControl_platform (s : State) : (s.initialiseControl).platform = s.platform := rfl
@[simp] theorem State.initialiseControl_iprbLayout (s : State) : (s.initialiseControl).iprbLayout = s.iprbLayout := rfl
@[simp] theorem State.initialiseControl_deviceAnswers (s : State) : (s.initialiseControl).deviceAnswers = s.deviceAnswers := rfl
@[simp] theorem State.initialiseControl_deviceCalls (s : State) : (s.initialiseControl).deviceCalls = s.deviceCalls := rfl
@[simp] theorem State.initialiseControl_syscr (s : State) : (s.initialiseControl).syscr = 0x0B#8 := rfl
@[simp] theorem State.initialiseControl_iscr (s : State) : (s.initialiseControl).iscr = 0#8 := rfl
@[simp] theorem State.initialiseControl_ier (s : State) : (s.initialiseControl).ier = 0#8 := rfl
@[simp] theorem State.initialiseControl_isr (s : State) : (s.initialiseControl).isr = 0#8 := rfl
@[simp] theorem State.initialiseControl_isrRead (s : State) : (s.initialiseControl).isrRead = 0#8 := rfl
@[simp] theorem State.initialiseControl_ipra (s : State) : (s.initialiseControl).ipra = 0#8 := rfl
@[simp] theorem State.initialiseControl_iprb (s : State) : (s.initialiseControl).iprb = 0#8 := rfl
@[simp] theorem State.initialiseControl_pstate (s : State) : (s.initialiseControl).pstate = s.pstate := rfl
@[simp] theorem State.initialiseControl_irqInhibit (s : State) : (s.initialiseControl).irqInhibit = s.irqInhibit := rfl
@[simp] theorem State.initialiseControl_resLow (s : State) : (s.initialiseControl).resLow = s.resLow := rfl
@[simp] theorem State.initialiseControl_resDuring (s : State) : (s.initialiseControl).resDuring = s.resDuring := rfl
@[simp] theorem State.initialiseControl_stbyLow (s : State) : (s.initialiseControl).stbyLow = s.stbyLow := rfl
@[simp] theorem State.initialiseControl_pins (s : State) : (s.initialiseControl).pins = s.pins := rfl
@[simp] theorem State.initialiseControl_pinsSeen (s : State) : (s.initialiseControl).pinsSeen = s.pinsSeen := rfl
@[simp] theorem State.initialiseControl_nmiRequest (s : State) : (s.initialiseControl).nmiRequest = false := rfl
@[simp] theorem State.initialiseControl_moduleRequests (s : State) : (s.initialiseControl).moduleRequests = [] := rfl
@[simp] theorem State.initialiseControl_nmiDuringTransfer (s : State) : (s.initialiseControl).nmiDuringTransfer = none := rfl
@[simp] theorem State.initialiseControl_draws (s : State) : (s.initialiseControl).draws = s.draws + s.ioWindow := rfl

end Sys2Proof.Machine
end

