-- ==== Sys2Proof/Laws/Memory.lean ====
section
/-! SUPPORT. The cells of memory: reading after writing, and the canonical form every operation keeps; what a read and a
store can do. -/

namespace Sys2Proof.Machine

/-! ### Sequences -/

/-- A sequence that ends well has a first part that ends well. -/
theorem bind_ok {α β : Type} {x : Res α} {f : α → Res β} {b : β} (h : (x >>= f) = .ok b) :
    ∃ a, x = .ok a ∧ f a = .ok b := by
  cases x with
  | error e => cases h
  | ok a => exact ⟨a, rfl, h⟩

/-- A sequence that stops does so in its first part, or in the rest. -/
theorem bind_error {α β : Type} {x : Res α} {f : α → Res β} {e : Stop} (h : (x >>= f) = .error e) :
    x = .error e ∨ ∃ a, x = .ok a ∧ f a = .error e := by
  cases x with
  | error d => cases h; exact .inl rfl
  | ok a => exact .inr ⟨a, rfl, h⟩

/-! ### Cells -/

theorem Memory.wfFrom_cons {lo k : Nat} {v : Byte} {m : Memory} :
    Memory.wfFrom lo ((k, v) :: m) = true ↔ lo ≤ k ∧ v ≠ Memory.unlisted ∧ Memory.wfFrom (k + 1) m = true := by
  simp [Memory.wfFrom, and_assoc]

theorem Memory.wfFrom_mono {m : Memory} {lo lo' : Nat} (h : Memory.wfFrom lo m = true) (hl : lo' ≤ lo) :
    Memory.wfFrom lo' m = true := by
  cases m with
  | nil => rfl
  | cons c m =>
    obtain ⟨k, v⟩ := c
    rw [Memory.wfFrom_cons] at h ⊢
    exact ⟨by omega, h.2⟩

/-- Below its first address a memory lists nothing. -/
theorem Memory.read_below {m : Memory} {lo a : Nat} (h : Memory.wfFrom lo m = true) (ha : a < lo) :
    m.read a = Memory.unlisted := by
  induction m generalizing lo with
  | nil => rfl
  | cons c m ih =>
    obtain ⟨k, v⟩ := c
    rw [Memory.wfFrom_cons] at h
    rw [Memory.read, if_neg (by omega)]
    exact ih h.2.2 (by omega)

theorem Memory.wfFrom_consCell {lo a : Nat} {v : Byte} {m : Memory} (hl : lo ≤ a)
    (h : Memory.wfFrom (a + 1) m = true) : Memory.wfFrom lo (Memory.cons a v m) = true := by
  unfold Memory.cons
  split
  · exact Memory.wfFrom_mono h (by omega)
  · exact Memory.wfFrom_cons.mpr ⟨hl, by assumption, h⟩

/-- A write keeps the canonical form, from any bound on. -/
theorem Memory.wfFrom_write {m : Memory} {lo a : Nat} (v : Byte) (h : Memory.wfFrom lo m = true) (ha : lo ≤ a) :
    Memory.wfFrom lo (m.write a v) = true := by
  induction m generalizing lo with
  | nil => exact Memory.wfFrom_consCell ha rfl
  | cons c m ih =>
    obtain ⟨k, w⟩ := c
    rw [Memory.wfFrom_cons] at h
    unfold Memory.write
    split
    · exact Memory.wfFrom_cons.mpr ⟨h.1, h.2.1, ih h.2.2 (by omega)⟩
    · split
      · subst_vars
        exact Memory.wfFrom_consCell h.1 h.2.2
      · exact Memory.wfFrom_consCell ha (Memory.wfFrom_cons.mpr ⟨by omega, h.2⟩)

/-- A write keeps the canonical form. -/
theorem Memory.wf_write {m : Memory} (a : Nat) (v : Byte) (h : m.wf = true) : (m.write a v).wf = true :=
  Memory.wfFrom_write v h (Nat.zero_le a)

theorem Memory.read_cons (a b : Nat) (v : Byte) (m : Memory) :
    (Memory.cons a v m).read b = if a = b ∧ v ≠ Memory.unlisted then v else m.read b := by
  unfold Memory.cons
  split <;> simp_all [Memory.read]

/-- A write leaves every other cell alone. -/
theorem Memory.read_write_other (m : Memory) {a b : Nat} (v : Byte) (h : b ≠ a) :
    (m.write a v).read b = m.read b := by
  induction m with
  | nil => simp [Memory.write, Memory.read_cons, Ne.symm h]
  | cons c m ih =>
    obtain ⟨k, w⟩ := c
    unfold Memory.write
    split
    · simp [Memory.read, ih]
    · split
      · simp_all [Memory.read_cons, Memory.read, Ne.symm h]
      · simp [Memory.read_cons, Memory.read, Ne.symm h]

/-- A cell reads as what was written to it. -/
theorem Memory.read_write_same {m : Memory} {lo : Nat} (a : Nat) (v : Byte) (h : Memory.wfFrom lo m = true) :
    (m.write a v).read a = v := by
  induction m generalizing lo with
  | nil => by_cases hv : v = Memory.unlisted <;> simp [Memory.write, Memory.read_cons, Memory.read, hv]
  | cons c m ih =>
    obtain ⟨k, w⟩ := c
    rw [Memory.wfFrom_cons] at h
    unfold Memory.write
    split
    · rw [Memory.read, if_neg (by omega)]
      exact ih h.2.2
    · split
      · subst_vars
        by_cases hv : v = Memory.unlisted
        · simp [Memory.read_cons, hv, Memory.read_below h.2.2 (Nat.lt_succ_self _)]
        · simp [Memory.read_cons, hv]
      · have hk : Memory.wfFrom k ((k, w) :: m) = true := Memory.wfFrom_cons.mpr ⟨le_refl k, h.2⟩
        by_cases hv : v = Memory.unlisted
        · simp [Memory.read_cons, hv, Memory.read_below hk (show a < k by omega)]
        · simp [Memory.read_cons, hv]

/-- Reading any cell after a write. -/
theorem Memory.read_write {m : Memory} (a b : Nat) (v : Byte) (h : m.wf = true) :
    (m.write a v).read b = if b = a then v else m.read b := by
  by_cases e : b = a
  · subst e; simp [Memory.read_write_same b v h]
  · rw [Memory.read_write_other m v e, if_neg e]

/-- Cells that take new bytes keep the canonical form. -/
theorem Memory.wf_scramble (which : Nat → Bool) (new : Nat → Byte) (n a : Nat) {m : Memory} (h : m.wf = true) :
    (Memory.scramble which new n a m).wf = true := by
  induction n generalizing a m with
  | zero => exact h
  | succ n ih =>
    refine ih (a + 1) ?_
    split
    · exact Memory.wf_write a (new a) h
    · exact h

/-- Reading any cell after some have taken new bytes. -/
theorem Memory.read_scramble (which : Nat → Bool) (new : Nat → Byte) (n a : Nat) {m : Memory} (h : m.wf = true) (b : Nat) :
    (Memory.scramble which new n a m).read b = if a ≤ b ∧ b < a + n ∧ which b = true then new b else m.read b := by
  induction n generalizing a m with
  | zero => rw [if_neg (by omega)]; rfl
  | succ n ih =>
    unfold Memory.scramble
    by_cases hw : which a = true
    · rw [if_pos hw, ih (a + 1) (Memory.wf_write a (new a) h), Memory.read_write a b (new a) h]
      by_cases hb : b = a
      · subst hb
        rw [if_neg (by omega), if_pos rfl, if_pos ⟨by omega, by omega, hw⟩]
      · rw [if_neg hb]
        exact if_congr ⟨fun c => ⟨by omega, by omega, c.2.2⟩, fun c => ⟨by omega, by omega, c.2.2⟩⟩ rfl rfl
    · rw [if_neg hw, ih (a + 1) h]
      refine if_congr ⟨fun c => ⟨by omega, by omega, c.2.2⟩, fun c => ⟨?_, by omega, c.2.2⟩⟩ rfl rfl
      have : b ≠ a := fun e => hw (e ▸ c.2.2)
      omega

/-- A cell that is not picked keeps its byte. -/
theorem Memory.read_scramble_other (which : Nat → Bool) (new : Nat → Byte) (n a : Nat) (m : Memory) {b : Nat}
    (hb : a ≤ b → b < a + n → which b = false) : (Memory.scramble which new n a m).read b = m.read b := by
  induction n generalizing a m with
  | zero => rfl
  | succ n ih =>
    refine (ih (a + 1) _ fun h1 h2 => hb (by omega) (by omega)).trans ?_
    split
    · refine Memory.read_write_other m _ fun e => ?_
      subst e
      simp_all
    · rfl

/-! ### What decides where an address leads -/

/-- The map depends on the mode, the product, the platform and RAME only (R93, R94). -/
theorem locate_congr {s t : State} (hm : t.mcuMode = s.mcuMode) (hp : t.product = s.product)
    (hf : t.platform = s.platform) (hr : t.ramEnabled = s.ramEnabled) (a : Addr) : t.locate a = s.locate a := by
  have e : ∀ p, t.platformKind p = s.platformKind p := fun p => by simp only [State.platformKind, State.platformRegion, hf]
  have x : ∀ p k, t.externalPlace p k = s.externalPlace p k := fun p k => by simp only [State.externalPlace, e]
  have y : ∀ p k, t.internalPlace p k = s.internalPlace p k := fun p k => by simp only [State.internalPlace, e]
  simp only [State.locate, hm, hp, hr, x, y]

/-- The interrupt controller's registers, MDCR and SYSCR stand at the same low 16 bits of the address in every mode and
product (R42, R43, R50, R92). -/
theorem locate_ioReg (s : State) {low : Nat} {r : IoReg} (h : IoReg.ofLow low = some r) (lo : 0xFF1C ≤ low)
    (hi : low < 0x10000) : s.locate (BitVec.ofNat 24 (0xFF0000 + low)) = .reg r := by
  have phys_eq (m : McuMode) : phys m (BitVec.ofNat 24 (0xFF0000 + low)) = topBase m + low := by
    cases m <;> simp [phys, topBase, McuMode.oneMbyte, BitVec.toNat_ofNat] <;> omega
  have above (m : McuMode) (p : Product) :
      McuMode.hasRom m = true → ¬ topBase m + low < Product.romSize p ∧ ¬ topBase m + low < romSpace := by
    cases m <;> cases p <;> simp [topBase, McuMode.oneMbyte, McuMode.hasRom, Product.romSize, romSpace] <;> omega
  have this := above s.mcuMode s.product
  have sub : topBase s.mcuMode + low - topBase s.mcuMode = low := by omega
  unfold State.locate State.internalPlace
  simp only [phys_eq, sub, h]
  cases hr : McuMode.hasRom s.mcuMode with
  | false => simp [lo]
  | true => simp [(this hr).1, (this hr).2, lo]

/-- Which cells are module registers depends on the mode and the platform only (R92). -/
theorem moduleCell_congr {s t : State} (hm : t.mcuMode = s.mcuMode) (hf : t.platform = s.platform) (ports : Bool)
    (p : Nat) : t.moduleCell ports p = s.moduleCell ports p := by
  simp only [State.moduleCell, State.platformRegion, hm, hf]

/-- A module register stands in the window of internal I/O registers (R92). -/
theorem moduleCell_window {s : State} {ports : Bool} {p : Nat} (h : s.moduleCell ports p = true) :
    topBase s.mcuMode + 0xFF1C ≤ p ∧ p < topBase s.mcuMode + 0x10000 := by
  simp only [State.moduleCell, Bool.and_eq_true, decide_eq_true_eq] at h
  omega

/-- No address leads to an abandoned instruction. -/
theorem locate_not_abandoned (s t : State) (a : Addr) : s.locate a ≠ .stop (.abandoned t) := by
  have x : ∀ p k, s.externalPlace p k ≠ .stop (.abandoned t) := fun p k => by
    unfold State.externalPlace; split <;> simp
  have y : ∀ p k, s.internalPlace p k ≠ .stop (.abandoned t) := fun p k => by
    unfold State.internalPlace
    split
    · simp
    · split <;> simp
  simp only [State.locate]
  repeat' split
  all_goals first | exact x _ _ | exact y _ _ | simp

/-! ### Reads -/

/-- Reading a byte changes nothing but the record of ISR flags read as 1 (R55), and what devices are asked (R100). -/
theorem noteRead_eq (s : State) (a : Addr) : ∃ r d c k, s.noteRead a =
    { s with isrRead := r, deviceAnswers := d, deviceCalls := c, draws := k } := by
  unfold State.noteRead
  split <;> exact ⟨_, _, _, _, rfl⟩

/-- Reading a byte that no device answers changes nothing but the record of ISR flags read as 1 (R55). -/
theorem noteRead_eq_of {s : State} {a : Addr} (h : (s.locate a).isDevice = false) :
    ∃ r, s.noteRead a = { s with isrRead := r } := by
  unfold State.noteRead
  split <;> first | exact ⟨_, rfl⟩ | simp_all [Place.isDevice]

/-- Reading a cell of memory changes nothing. -/
theorem noteRead_of_cell {s : State} {a : Addr} {k : Nat} (h : s.locate a = .ram k ∨ s.locate a = .rom k) :
    s.noteRead a = s := by
  rcases h with h | h <;> simp [State.noteRead, h]

/-- What a byte read does. -/
theorem readByte_ok {s t : State} {a : Addr} {v : Byte} (h : s.readByte a = .ok (v, t)) :
    s.peekByte a = .ok v ∧ t = s.noteRead a := by
  obtain ⟨w, h1, h2⟩ := bind_ok h
  cases h2
  exact ⟨h1, rfl⟩

/-- A byte that can be peeked can be read. -/
theorem readByte_of_peek {s : State} {a : Addr} {v : Byte} (h : s.peekByte a = .ok v) :
    s.readByte a = .ok (v, s.noteRead a) := by
  simp only [State.readByte, h]
  rfl

/-- A byte that cannot be peeked stops the read. -/
theorem readByte_error {s : State} {a : Addr} {e : Stop} (h : s.peekByte a = .error e) : s.readByte a = .error e := by
  simp only [State.readByte, h]
  rfl

/-- A read is never abandoned: only a store is (R406). -/
theorem peekByte_not_abandoned (s t : State) (a : Addr) : s.peekByte a ≠ .error (.abandoned t) := by
  unfold State.peekByte
  have := locate_not_abandoned s t a
  split <;> simp_all

theorem readByte_not_abandoned (s t : State) (a : Addr) : s.readByte a ≠ .error (.abandoned t) := fun h => by
  rcases bind_error h with h | ⟨v, -, h⟩
  · exact peekByte_not_abandoned s t a h
  · cases h

/-- Noting a read changes no place. -/
@[simp] theorem noteRead_locate (s : State) (a b : Addr) : (s.noteRead a).locate b = s.locate b := by
  obtain ⟨r, d, c, k, h⟩ := noteRead_eq s a
  rw [h]
  exact locate_congr rfl rfl rfl rfl b

/-- Noting a read changes no byte but what devices answer. -/
theorem noteRead_peekByte {s : State} {a b : Addr}
    (h : (s.locate a).isDevice = false ∨ (s.locate b).isDevice = false) :
    (s.noteRead a).peekByte b = s.peekByte b := by
  unfold State.peekByte
  rw [noteRead_locate]
  rcases h with h | h
  · obtain ⟨r, e⟩ := noteRead_eq_of h
    rw [e]
    split <;> rfl
  · obtain ⟨r, d, c, k, e⟩ := noteRead_eq s a
    rw [e]
    split <;> first | rfl | simp_all [Place.isDevice]

/-- Where the byte at the even address is no device's, a word is two bytes (R76). -/
theorem wideDevice_of {s : State} {a : Addr} (h : (s.locate a).isDevice = false) : s.wideDevice a = false := by
  unfold State.wideDevice
  cases hl : s.locate a <;> simp_all [Place.isDevice]

/-- What a word read does: one call of a wide device, or two byte reads (R76, R99). -/
theorem readWord_ok {s t : State} {a : Addr} {v : Word} (h : s.readWord a = .ok (v, t)) :
    (s.wideDevice (evenAddr a) = true ∧ v = s.deviceAnswer ∧ t = s.callRead (evenAddr a) 2 s.deviceAnswer) ∨
    (s.wideDevice (evenAddr a) = false ∧ ∃ hi lo s1, s.readByte (evenAddr a) = .ok (hi, s1) ∧
      s1.readByte (evenAddr a + 1) = .ok (lo, t) ∧ v = hi ++ lo) := by
  unfold State.readWord at h
  split at h
  · cases h; exact .inl ⟨by assumption, rfl, rfl⟩
  · obtain ⟨⟨hi, s1⟩, h1, h2⟩ := bind_ok h
    obtain ⟨⟨lo, s2⟩, h3, h4⟩ := bind_ok h2
    cases h4
    exact .inr ⟨by simp_all, hi, lo, s1, h1, h3, rfl⟩

/-- A word whose bytes can be peeked and are no device's can be read. -/
theorem readWord_of_peek {s : State} {a : Addr} {hi lo : Byte} (hd : (s.locate (evenAddr a)).isDevice = false)
    (h1 : s.peekByte (evenAddr a) = .ok hi) (h2 : s.peekByte (evenAddr a + 1) = .ok lo) :
    s.readWord a = .ok (hi ++ lo, (s.noteRead (evenAddr a)).noteRead (evenAddr a + 1)) := by
  have h2' : (s.noteRead (evenAddr a)).peekByte (evenAddr a + 1) = .ok lo := by
    rw [noteRead_peekByte (.inl hd)]; exact h2
  simp only [State.readWord, wideDevice_of hd, Bool.false_eq_true, if_false, readByte_of_peek h1, readByte_of_peek h2',
    bind, Except.bind, pure, Except.pure]

/-- What a longword read does: two word reads (R77). -/
theorem readLong_ok {s t : State} {a : Addr} {v : Long} (h : s.readLong a = .ok (v, t)) :
    ∃ hi lo s1, s.readWord (evenAddr a) = .ok (hi, s1) ∧ s1.readWord (evenAddr a + 2) = .ok (lo, t) ∧
      v = hi ++ lo := by
  obtain ⟨⟨hi, s1⟩, h1, h2⟩ := bind_ok h
  obtain ⟨⟨lo, s2⟩, h3, h4⟩ := bind_ok h2
  cases h4
  exact ⟨hi, lo, s1, h1, h3, rfl⟩

theorem readWord_not_abandoned (s t : State) (a : Addr) : s.readWord a ≠ .error (.abandoned t) := fun h => by
  unfold State.readWord at h
  split at h
  · cases h
  · rcases bind_error h with h | ⟨⟨hi, s1⟩, -, h⟩
    · exact readByte_not_abandoned s t _ h
    · rcases bind_error h with h | ⟨⟨lo, s2⟩, -, h⟩
      · exact readByte_not_abandoned s1 t _ h
      · cases h

theorem readLong_not_abandoned (s t : State) (a : Addr) : s.readLong a ≠ .error (.abandoned t) := fun h => by
  rcases bind_error h with h | ⟨⟨hi, s1⟩, -, h⟩
  · exact readWord_not_abandoned s t _ h
  · rcases bind_error h with h | ⟨⟨lo, s2⟩, -, h⟩
    · exact readWord_not_abandoned s1 t _ h
    · cases h

/-! ### Stores -/

/-- What a byte write does: one cell, one register, one call, or nothing (R75, R92, R94, R100). -/
theorem writeByte_ok {s t : State} {a : Addr} {v : Byte} (h : s.writeByte a v = .ok t) :
    (∃ k, (s.locate a = .ram k ∨ s.locate a = .writeOnly k) ∧ t = { s with mem := s.mem.write k v }) ∨
    (((∃ k, s.locate a = .rom k) ∨ s.locate a = .disabledRam) ∧ t = s) ∨
    (∃ w, s.locate a = .device w ∧ t = s.callWrite a 1 (v.zeroExtend 16)) ∨
    (∃ r, s.locate a = .reg r ∧ t = s.writeReg r v) := by
  unfold State.writeByte at h
  cases hl : s.locate a with
  | ram k => rw [hl] at h; cases h; exact .inl ⟨k, .inl rfl, rfl⟩
  | rom k => rw [hl] at h; cases h; exact .inr (.inl ⟨.inl ⟨k, rfl⟩, rfl⟩)
  | writeOnly k => rw [hl] at h; cases h; exact .inl ⟨k, .inr rfl, rfl⟩
  | disabledRam => rw [hl] at h; cases h; exact .inr (.inl ⟨.inr rfl, rfl⟩)
  | device w => rw [hl] at h; cases h; exact .inr (.inr (.inl ⟨w, rfl, rfl⟩))
  | reg r => rw [hl] at h; cases h; exact .inr (.inr (.inr ⟨r, rfl, rfl⟩))
  | stop w => rw [hl] at h; cases h

/-- What admitting a store does: RES stays high, the bytes lie outside the protected ones (R104), one write is counted. -/
theorem admitStore_ok {s t : State} {w nb : Nat} {a : Addr} (h : s.admitStore w nb a = .ok t) :
    s.resDuring ≠ some 0 ∧ (∀ j, j < nb → s.inStream w (a + BitVec.ofNat 24 j) = false) ∧
      t = { s with resDuring := s.resDuring.map fun k => k - 1 } := by
  unfold State.admitStore at h
  split at h
  · cases h
  · split at h
    · cases h
    · cases h
      exact ⟨by assumption, by simp_all, rfl⟩

/-- A store is abandoned exactly where RES goes low before it (R406). -/
theorem admitStore_abandoned {s t : State} {w nb : Nat} {a : Addr} :
    s.admitStore w nb a = .error (.abandoned t) ↔ s.resDuring = some 0 ∧ t = s := by
  unfold State.admitStore
  split
  · simp_all [eq_comm]
  · split <;> simp_all

/-- While RES stays high a store outside the protected bytes is admitted and changes nothing itself. -/
theorem admitStore_of {s : State} {w nb : Nat} {a : Addr} (hr : s.resDuring = none)
    (hs : ∀ j, j < nb → s.inStream w (a + BitVec.ofNat 24 j) = false) : s.admitStore w nb a = .ok s := by
  have hn : ((List.range nb).any fun j => s.inStream w (a + BitVec.ofNat 24 j)) = false := by simp_all
  obtain ⟨er, pc, ccr, mem, mcu, prod, plat, lay, ans, calls, syscr, iscr, ier, isr, isrRead, ipra, iprb, pst, inh,
    res, rd, stby, pins, seen, nmi, mods, ndt, draws⟩ := s
  subst hr
  simp only [State.admitStore, hn, Bool.false_eq_true, if_false, Option.map_none, reduceCtorEq]

/-- What a stored byte does. -/
theorem storeByte_ok {s t : State} {w : Nat} {a : Addr} {v : Byte} (h : s.storeByte w a v = .ok t) :
    ∃ s1, s.admitStore w 1 a = .ok s1 ∧ s1.writeByte a v = .ok t := bind_ok h

/-- While RES stays high a byte outside the protected bytes is stored by writing it. -/
theorem storeByte_of {s : State} {w : Nat} {a : Addr} {v : Byte} (hr : s.resDuring = none)
    (hs : s.inStream w a = false) : s.storeByte w a v = s.writeByte a v := by
  have ha : s.admitStore w 1 a = .ok s := admitStore_of hr fun j hj => by
    obtain rfl : j = 0 := by omega
    simpa using hs
  simp only [State.storeByte, ha]
  rfl

/-- A byte write is never abandoned: only its admission is (R406). -/
theorem writeByte_not_abandoned (s t : State) (a : Addr) (v : Byte) : s.writeByte a v ≠ .error (.abandoned t) := by
  have := locate_not_abandoned s t a
  unfold State.writeByte
  split <;> simp_all

/-- What a word write in one bus cycle does: one call, or both bytes (R99). -/
theorem writeWord_ok {s t : State} {a : Addr} {v : Word} (h : s.writeWord a v = .ok t) :
    (s.wideDevice a = true ∧ t = s.callWrite a 2 v) ∨
    (s.wideDevice a = false ∧ ∃ s1, s.writeByte a (v.extractLsb' 8 8) = .ok s1 ∧
      s1.writeByte (a + 1) (v.extractLsb' 0 8) = .ok t) := by
  unfold State.writeWord at h
  split at h
  · cases h; exact .inl ⟨by assumption, rfl⟩
  · obtain ⟨s1, h1, h2⟩ := bind_ok h
    exact .inr ⟨by simp_all, s1, h1, h2⟩

/-- How many bus cycles a word takes depends on the mode, the product, the platform and RAME only (R98, R99). -/
theorem singleCycle_congr {s t : State} (hm : t.mcuMode = s.mcuMode) (hp : t.product = s.product)
    (hf : t.platform = s.platform) (hr : t.ramEnabled = s.ramEnabled) (a : Addr) :
    t.singleCycle a = s.singleCycle a := by
  simp only [State.singleCycle, State.wideDevice, State.onChip, locate_congr hm hp hf hr, hm, hp, hr]

/-- What a stored word does: one bus cycle, or the upper byte at the even address and then the lower (R76, R99). -/
theorem storeWord_ok {s t : State} {w : Nat} {a : Addr} {v : Word} (h : s.storeWord w a v = .ok t) :
    (s.singleCycle (evenAddr a) = true ∧ ∃ s1, s.admitStore w 2 (evenAddr a) = .ok s1 ∧
      s1.writeWord (evenAddr a) v = .ok t) ∨
    (s.singleCycle (evenAddr a) = false ∧ ∃ s1, s.storeByte w (evenAddr a) (v.extractLsb' 8 8) = .ok s1 ∧
      s1.storeByte w (evenAddr a + 1) (v.extractLsb' 0 8) = .ok t) := by
  unfold State.storeWord at h
  split at h
  · obtain ⟨s1, h1, h2⟩ := bind_ok h
    exact .inl ⟨by assumption, s1, h1, h2⟩
  · obtain ⟨s1, h1, h2⟩ := bind_ok h
    exact .inr ⟨by simp_all, s1, h1, h2⟩

/-- What a stored longword does: the upper word, then the lower (R77). -/
theorem storeLong_ok {s t : State} {w : Nat} {a : Addr} {v : Long} (h : s.storeLong w a v = .ok t) :
    ∃ s1, s.storeWord w (evenAddr a) (v.extractLsb' 16 16) = .ok s1 ∧
      s1.storeWord w (evenAddr a + 2) (v.extractLsb' 0 16) = .ok t := bind_ok h

end Sys2Proof.Machine
end

