-- ==== Sys2Proof/Laws/Registers.lean ====
section
/-! SUPPORT. Reading a register or one of its views after writing one. -/

namespace Sys2Proof.Machine

/-! ### Registers after updates of something else -/

@[simp] theorem State.setCcr_reg32 (s : State) (v : Byte) (n : RegNum) : (s.setCcr v).reg32 n = s.reg32 n := rfl
@[simp] theorem State.setPc_reg32 (s : State) (a : Addr) (n : RegNum) : (s.setPc a).reg32 n = s.reg32 n := rfl
@[simp] theorem State.advance_reg32 (s : State) (k : Nat) (n : RegNum) : (s.advance k).reg32 n = s.reg32 n := rfl
@[simp] theorem State.drawn_reg32 (s : State) (k : Nat) (n : RegNum) : (s.drawn k).reg32 n = s.reg32 n := rfl
@[simp] theorem State.holdOff_reg32 (s : State) (n : RegNum) : s.holdOff.reg32 n = s.reg32 n := rfl
@[simp] theorem State.setPstate_reg32 (s : State) (p : ProcessingState) (n : RegNum) :
    (s.setPstate p).reg32 n = s.reg32 n := rfl

/-- Two states with the same registers have the same 16-bit views. -/
theorem reg16_congr {s t : State} (h : ∀ n, t.reg32 n = s.reg32 n) (r : Reg16) : t.reg16 r = s.reg16 r := by
  cases r <;> simp [State.reg16, h]

/-- Two states with the same registers have the same 8-bit views. -/
theorem reg8_congr {s t : State} (h : ∀ n, t.reg32 n = s.reg32 n) (r : Reg8) : t.reg8 r = s.reg8 r := by
  cases r <;> simp [State.reg8, h]

/-- Two states with the same ERn have the same 16-bit views of it. -/
theorem reg16_congr_at {s t : State} (r : Reg16) (h : t.reg32 r.num = s.reg32 r.num) : t.reg16 r = s.reg16 r := by
  cases r <;> simp_all [State.reg16, Reg16.num]

/-- Two states with the same ERn have the same 8-bit views of it. -/
theorem reg8_congr_at {s t : State} (r : Reg8) (h : t.reg32 r.num = s.reg32 r.num) : t.reg8 r = s.reg8 r := by
  cases r <;> simp_all [State.reg8, Reg8.num]

@[simp] theorem State.setCcr_reg16 (s : State) (v : Byte) (r : Reg16) : (s.setCcr v).reg16 r = s.reg16 r :=
  reg16_congr (fun _ => rfl) r
@[simp] theorem State.setPc_reg16 (s : State) (a : Addr) (r : Reg16) : (s.setPc a).reg16 r = s.reg16 r :=
  reg16_congr (fun _ => rfl) r
@[simp] theorem State.advance_reg16 (s : State) (k : Nat) (r : Reg16) : (s.advance k).reg16 r = s.reg16 r :=
  reg16_congr (fun _ => rfl) r
@[simp] theorem State.drawn_reg16 (s : State) (k : Nat) (r : Reg16) : (s.drawn k).reg16 r = s.reg16 r :=
  reg16_congr (fun _ => rfl) r
@[simp] theorem State.holdOff_reg16 (s : State) (r : Reg16) : s.holdOff.reg16 r = s.reg16 r :=
  reg16_congr (fun _ => rfl) r
@[simp] theorem State.setCcr_reg8 (s : State) (v : Byte) (r : Reg8) : (s.setCcr v).reg8 r = s.reg8 r :=
  reg8_congr (fun _ => rfl) r
@[simp] theorem State.setPc_reg8 (s : State) (a : Addr) (r : Reg8) : (s.setPc a).reg8 r = s.reg8 r :=
  reg8_congr (fun _ => rfl) r
@[simp] theorem State.advance_reg8 (s : State) (k : Nat) (r : Reg8) : (s.advance k).reg8 r = s.reg8 r :=
  reg8_congr (fun _ => rfl) r
@[simp] theorem State.drawn_reg8 (s : State) (k : Nat) (r : Reg8) : (s.drawn k).reg8 r = s.reg8 r :=
  reg8_congr (fun _ => rfl) r
@[simp] theorem State.holdOff_reg8 (s : State) (r : Reg8) : s.holdOff.reg8 r = s.reg8 r :=
  reg8_congr (fun _ => rfl) r

/-! ### Bits of a register put together -/

theorem getLsbD_words (x y : Word) (i : Nat) :
    BitVec.getLsbD (w := 32) (x ++ y) i = if i < 16 then y.getLsbD i else x.getLsbD (i - 16) :=
  BitVec.getLsbD_append

theorem getLsbD_lowByte (x : BitVec 24) (y : Byte) (i : Nat) :
    BitVec.getLsbD (w := 32) (x ++ y) i = if i < 8 then y.getLsbD i else x.getLsbD (i - 8) :=
  BitVec.getLsbD_append

theorem getLsbD_highByte (x : Word) (y z : Byte) (i : Nat) :
    BitVec.getLsbD (w := 32) (x ++ y ++ z) i =
      if i < 8 then z.getLsbD i else if i < 16 then y.getLsbD (i - 8) else x.getLsbD (i - 16) := by
  have h1 : BitVec.getLsbD (w := 32) (x ++ y ++ z) i = if i < 8 then z.getLsbD i else (x ++ y).getLsbD (i - 8) :=
    BitVec.getLsbD_append
  rw [h1, BitVec.getLsbD_append]
  by_cases a : i < 8
  · simp [a]
  · simp only [a, if_false, show (i - 8 < 8) = (i < 16) by apply propext; omega, Nat.sub_sub]

/-! ### 32 bits -/

@[simp] theorem reg32_setReg32_same (s : State) (n : RegNum) (v : Long) : (s.setReg32 n v).reg32 n = v := by
  simp [State.reg32]

theorem reg32_setReg32_other (s : State) {m n : RegNum} (v : Long) (h : m ≠ n) :
    (s.setReg32 n v).reg32 m = s.reg32 m := by
  have h' : n.val ≠ m.val := fun e => h (Fin.ext e.symm)
  simp [State.reg32, h']

/-! ### 16 bits -/

theorem extract_putWord_same (x : Long) (v : Word) (r : Reg16) :
    (match r with | .r _ => (putWord x v r).extractLsb' 0 16 | .e _ => (putWord x v r).extractLsb' 16 16) = v := by
  cases r <;> apply BitVec.eq_of_getLsbD_eq <;> intro i hi <;> simp [putWord, getLsbD_words, hi]

@[simp] theorem reg32_setReg16_same (s : State) (r : Reg16) (v : Word) :
    (s.setReg16 r v).reg32 r.num = putWord (s.reg32 r.num) v r := reg32_setReg32_same ..

theorem reg32_setReg16_other (s : State) {m : RegNum} (r : Reg16) (v : Word) (h : m ≠ r.num) :
    (s.setReg16 r v).reg32 m = s.reg32 m := reg32_setReg32_other s _ h

@[simp] theorem reg16_setReg16_same (s : State) (r : Reg16) (v : Word) : (s.setReg16 r v).reg16 r = v := by
  have h := reg32_setReg16_same s r v
  have e := extract_putWord_same (s.reg32 r.num) v r
  cases r <;> simp only [State.reg16, Reg16.num] at * <;> rw [h] <;> exact e

/-- "A write to a view changes exactly the bits of that view" (R23), among the 16-bit views. -/
theorem reg16_setReg16_other (s : State) {q r : Reg16} (v : Word) (h : q ≠ r) :
    (s.setReg16 r v).reg16 q = s.reg16 q := by
  by_cases hn : q.num = r.num
  · have h32 : (s.setReg16 r v).reg32 q.num = putWord (s.reg32 q.num) v r := by rw [hn]; exact reg32_setReg16_same ..
    cases q <;> cases r <;> simp only [Reg16.num] at * <;> subst_vars <;> first
      | exact absurd rfl h
      | (simp only [State.reg16, h32, putWord]; apply BitVec.eq_of_getLsbD_eq; intro i hi; simp [getLsbD_words, hi])
  · exact reg16_congr_at q (reg32_setReg16_other s r v hn)

/-! ### 8 bits -/

theorem extract_putByte_same (x : Long) (v : Byte) (r : Reg8) :
    (match r with | .h _ => (putByte x v r).extractLsb' 8 8 | .l _ => (putByte x v r).extractLsb' 0 8) = v := by
  cases r <;> apply BitVec.eq_of_getLsbD_eq <;> intro i hi <;>
    simp [putByte, getLsbD_lowByte, getLsbD_highByte, hi]; omega

@[simp] theorem reg32_setReg8_same (s : State) (r : Reg8) (v : Byte) :
    (s.setReg8 r v).reg32 r.num = putByte (s.reg32 r.num) v r := reg32_setReg32_same ..

theorem reg32_setReg8_other (s : State) {m : RegNum} (r : Reg8) (v : Byte) (h : m ≠ r.num) :
    (s.setReg8 r v).reg32 m = s.reg32 m := reg32_setReg32_other s _ h

@[simp] theorem reg8_setReg8_same (s : State) (r : Reg8) (v : Byte) : (s.setReg8 r v).reg8 r = v := by
  have h := reg32_setReg8_same s r v
  have e := extract_putByte_same (s.reg32 r.num) v r
  cases r <;> simp only [State.reg8, Reg8.num] at * <;> rw [h] <;> exact e

/-- "A write to a view changes exactly the bits of that view" (R23), among the 8-bit views. -/
theorem reg8_setReg8_other (s : State) {q r : Reg8} (v : Byte) (h : q ≠ r) :
    (s.setReg8 r v).reg8 q = s.reg8 q := by
  by_cases hn : q.num = r.num
  · have h32 : (s.setReg8 r v).reg32 q.num = putByte (s.reg32 q.num) v r := by rw [hn]; exact reg32_setReg8_same ..
    cases q <;> cases r <;> simp only [Reg8.num] at * <;> subst_vars <;> first
      | exact absurd rfl h
      | (simp only [State.reg8, h32, putByte]; apply BitVec.eq_of_getLsbD_eq; intro i hi;
         simp [getLsbD_lowByte, getLsbD_highByte, hi]; try omega)
  · exact reg8_congr_at q (reg32_setReg8_other s r v hn)

/-- A byte write leaves the upper half of every ERn alone (R23). -/
theorem upper_setReg8 (s : State) (r : Reg8) (v : Byte) (n : RegNum) :
    (s.setReg8 r v).reg16 (.e n) = s.reg16 (.e n) := by
  by_cases hn : n = r.num
  · subst hn
    simp only [State.reg16, reg32_setReg8_same]
    apply BitVec.eq_of_getLsbD_eq
    intro i hi
    have h8 : ¬16 + i < 8 := by omega
    cases r with
    | h n => simp [Reg8.num, putByte, getLsbD_highByte, hi]; omega
    | l n =>
      have e : 8 + (16 + i - 8) = 16 + i := by omega
      have h24 : 16 + i - 8 < 24 := by omega
      simp [Reg8.num, putByte, getLsbD_lowByte, hi, h8, e, h24]
  · exact reg16_congr_at (.e n) (reg32_setReg8_other s r v hn)

end Sys2Proof.Machine
end

