-- ==== Sys2Proof/Laws/Ops.lean ====
section
/-! SUPPORT. What each shared operation can do, said once: stack, calls, exceptions, loads, stores, bit operands. -/

namespace Sys2Proof.Machine

/-! ### Results and outcomes -/

/-- `finish` answers a next state exactly where the result is one, or where RES has gone low on the way to it. -/
theorem finish_next {x : Res State} {t : State} :
    finish x = .next t ↔ x = .ok t ∨ ∃ s, x = .error (.abandoned s) ∧ t = s.abandon := by
  cases x with
  | ok s => simp [finish]
  | error e => cases e <;> simp [finish, eq_comm]

/-- The outcome of a sequence is next: its first part ends well and the rest answers it, or RES has gone low in the first
part. -/
theorem finish_bind_next {α : Type} {x : Res α} {f : α → Res State} {t : State} (h : finish (x >>= f) = .next t) :
    (∃ a, x = .ok a ∧ finish (f a) = .next t) ∨ ∃ s, x = .error (.abandoned s) ∧ t = s.abandon := by
  cases x with
  | ok a => exact .inl ⟨a, rfl, h⟩
  | error e =>
    rcases finish_next.mp h with h' | ⟨s, h', rfl⟩
    · cases h'
    · exact .inr ⟨s, by cases h'; rfl, rfl⟩

@[simp] theorem finish_ok (t : State) : finish (.ok t) = .next t := rfl

/-! ### Even addresses -/

@[simp] theorem evenAddr_bit0 (a : Addr) : (evenAddr a).getLsbD 0 = false := by
  simp [evenAddr]

@[simp] theorem evenAddr_idem (a : Addr) : evenAddr (evenAddr a) = evenAddr a := by
  simp [evenAddr, BitVec.and_assoc]

/-- An even address is its own even address. -/
theorem evenAddr_of_even {a : Addr} (h : a.getLsbD 0 = false) : evenAddr a = a := by
  apply BitVec.eq_of_getLsbD_eq
  intro i hi
  rcases Nat.eq_zero_or_pos i with rfl | hp
  · rw [h, evenAddr_bit0]
  · have hm : (0xFFFFFE#24).getLsbD i = true := by
      have : ∀ j : Fin 24, 0 < j.val → (0xFFFFFE#24).getLsbD j.val = true := by decide
      exact this ⟨i, hi⟩ hp
    simp [evenAddr, hm]

/-! ### The stack (R312, R386, R311, R321) -/

/-- What a push does: ER7 goes down by 4, the longword is stored there. -/
theorem pushLong_ok {s t : State} {w : Nat} {v : Long} (h : s.pushLong w v = .ok t) :
    (s.setReg32 sp (s.reg32 sp - 4)).storeLong w (ea24 (s.reg32 sp - 4)) v = .ok t := by
  unfold State.pushLong at h
  simpa using h

/-- What a pop does: the longword at ER7 is read, ER7 goes up by 4. -/
theorem popLong_ok {s t : State} {v : Long} (h : s.popLong = .ok (v, t)) :
    ∃ s1, s.readLong (ea24 (s.reg32 sp)) = .ok (v, s1) ∧ t = s1.setReg32 sp (s1.reg32 sp + 4) := by
  obtain ⟨⟨w, s1⟩, h1, h2⟩ := bind_ok h
  cases h2
  exact ⟨s1, h1, rfl⟩

/-- What a vector fetch does: PC is the lower 24 bits of the longword at four times the vector number (R365). -/
theorem vectorTo_ok {s t : State} {k : Nat} (h : s.vectorTo k = .ok t) :
    ∃ v s1, s.readLong (BitVec.ofNat 24 (4 * k)) = .ok (v, s1) ∧ t = s1.setPc (ea24 v) := by
  obtain ⟨⟨v, s1⟩, h1, h2⟩ := bind_ok h
  cases h2
  exact ⟨v, s1, h1, rfl⟩

/-- What taking an exception does: the frame is pushed, the mask bits are set, PC comes from the vector (R386). -/
theorem takeException_ok {s t : State} {w k : Nat} {ret : Addr} (h : s.takeException w k ret = .ok t) :
    ∃ s1, s.pushLong w (s.ccr ++ ret) = .ok s1 ∧ s1.maskInterrupts.vectorTo k = .ok t := bind_ok h

/-- What returning from an exception does: CCR and PC come from the popped frame (R321). -/
theorem returnFromException_ok {s t : State} (h : s.returnFromException = .ok t) :
    ∃ v s1, s.popLong = .ok (v, s1) ∧ t = (s1.setCcr (v.extractLsb' 24 8)).setPc (ea24 v) := by
  obtain ⟨⟨v, s1⟩, h1, h2⟩ := bind_ok h
  cases h2
  exact ⟨v, s1, h1, rfl⟩

/-- What a call does: the reserved byte and the return address are pushed, PC is the target (R312). -/
theorem call_ok {s t : State} {len : Nat} {target : Addr} (h : s.call len target = .ok t) :
    ∃ s1, (s.drawn 1).pushLong (window len) (s.freeByte ++ s.nextPc len) = .ok s1 ∧ t = s1.setPc target := by
  obtain ⟨s1, h1, h2⟩ := bind_ok h
  cases h2
  exact ⟨s1, h1, rfl⟩

/-! ### Loads and stores (R150) -/

/-- What a mode does to its register leaves all but the general registers alone. -/
theorem postIncrement_eq (s : State) (nb : Nat) (m : Mode) : ∃ e, s.postIncrement nb m = { s with er := e } := by
  cases m <;> exact ⟨_, rfl⟩

/-- What a mode does to its register leaves all but the general registers alone. -/
theorem preDecrement_eq (s : State) (nb : Nat) (m : Mode) : ∃ e, s.preDecrement nb m = { s with er := e } := by
  cases m <;> exact ⟨_, rfl⟩

/-- The check for a data register inside the address register stops an instruction before it has begun. -/
theorem check_not_abandoned (m : Mode) (n : RegNum) (t : State) : m.check n ≠ .error (.abandoned t) := by
  unfold Mode.check
  split <;> simp

/-- The check for a data register inside the address register passes exactly where they differ (R163). -/
theorem check_ok {m : Mode} {n : RegNum} {u : Unit} : m.check n = .ok u ↔ m.modifies ≠ some n := by
  unfold Mode.check
  split <;> simp_all

/-- What a byte load does. -/
theorem loadB_next {m : Mode} {rd : Reg8} {len : Nat} {s t : State} (h : loadB m rd len s = .next t) :
    m.modifies ≠ some rd.num ∧ ∃ v s1, s.readByte (s.ea 1 m) = .ok (v, s1) ∧
      t = (((s1.postIncrement 1 m).setReg8 rd v).setCcr (flagsNZ0 v s.ccr)).advance len := by
  rcases finish_bind_next h with ⟨u, h1, h2⟩ | ⟨s2, h1, -⟩
  · rcases finish_bind_next h2 with ⟨⟨v, s1⟩, h3, h4⟩ | ⟨s2, h3, -⟩
    · cases h4
      exact ⟨check_ok.mp h1, v, s1, h3, rfl⟩
    · exact absurd h3 (readByte_not_abandoned s s2 _)
  · exact absurd h1 (check_not_abandoned _ _ s2)

/-- What a word load does. -/
theorem loadW_next {m : Mode} {rd : Reg16} {len : Nat} {s t : State} (h : loadW m rd len s = .next t) :
    m.modifies ≠ some rd.num ∧ ∃ v s1, s.readWord (s.ea 2 m) = .ok (v, s1) ∧
      t = (((s1.postIncrement 2 m).setReg16 rd v).setCcr (flagsNZ0 v s.ccr)).advance len := by
  rcases finish_bind_next h with ⟨u, h1, h2⟩ | ⟨s2, h1, -⟩
  · rcases finish_bind_next h2 with ⟨⟨v, s1⟩, h3, h4⟩ | ⟨s2, h3, -⟩
    · cases h4
      exact ⟨check_ok.mp h1, v, s1, h3, rfl⟩
    · exact absurd h3 (readWord_not_abandoned s s2 _)
  · exact absurd h1 (check_not_abandoned _ _ s2)

/-- What a longword load does. -/
theorem loadL_next {m : Mode} {rd : RegNum} {len : Nat} {s t : State} (h : loadL m rd len s = .next t) :
    m.modifies ≠ some rd ∧ ∃ v s1, s.readLong (s.ea 4 m) = .ok (v, s1) ∧
      t = (((s1.postIncrement 4 m).setReg32 rd v).setCcr (flagsNZ0 v s.ccr)).advance len := by
  rcases finish_bind_next h with ⟨u, h1, h2⟩ | ⟨s2, h1, -⟩
  · rcases finish_bind_next h2 with ⟨⟨v, s1⟩, h3, h4⟩ | ⟨s2, h3, -⟩
    · cases h4
      exact ⟨check_ok.mp h1, v, s1, h3, rfl⟩
    · exact absurd h3 (readLong_not_abandoned s s2 _)
  · exact absurd h1 (check_not_abandoned _ _ s2)

/-- What a byte store does: it completes, or RES goes low on the way to it (R406). -/
theorem storeB_next {m : Mode} {rs : Reg8} {len : Nat} {s t : State} (h : storeB rs m len s = .next t) :
    m.modifies ≠ some rs.num ∧
      ((∃ s1, (s.preDecrement 1 m).storeByte (window len) (s.ea 1 m) (s.reg8 rs) = .ok s1 ∧
        t = (s1.setCcr (flagsNZ0 (s.reg8 rs) s.ccr)).advance len) ∨
      ∃ s1, (s.preDecrement 1 m).storeByte (window len) (s.ea 1 m) (s.reg8 rs) = .error (.abandoned s1) ∧
        t = s1.abandon) := by
  rcases finish_bind_next h with ⟨u, h1, h2⟩ | ⟨s2, h1, -⟩
  · rcases finish_bind_next h2 with ⟨s1, h3, h4⟩ | ⟨s1, h3, rfl⟩
    · cases h4
      exact ⟨check_ok.mp h1, .inl ⟨s1, h3, rfl⟩⟩
    · exact ⟨check_ok.mp h1, .inr ⟨s1, h3, rfl⟩⟩
  · exact absurd h1 (check_not_abandoned _ _ s2)

/-- What a word store does: it completes, or RES goes low on the way to it (R406). -/
theorem storeW_next {m : Mode} {rs : Reg16} {len : Nat} {s t : State} (h : storeW rs m len s = .next t) :
    m.modifies ≠ some rs.num ∧
      ((∃ s1, (s.preDecrement 2 m).storeWord (window len) (s.ea 2 m) (s.reg16 rs) = .ok s1 ∧
        t = (s1.setCcr (flagsNZ0 (s.reg16 rs) s.ccr)).advance len) ∨
      ∃ s1, (s.preDecrement 2 m).storeWord (window len) (s.ea 2 m) (s.reg16 rs) = .error (.abandoned s1) ∧
        t = s1.abandon) := by
  rcases finish_bind_next h with ⟨u, h1, h2⟩ | ⟨s2, h1, -⟩
  · rcases finish_bind_next h2 with ⟨s1, h3, h4⟩ | ⟨s1, h3, rfl⟩
    · cases h4
      exact ⟨check_ok.mp h1, .inl ⟨s1, h3, rfl⟩⟩
    · exact ⟨check_ok.mp h1, .inr ⟨s1, h3, rfl⟩⟩
  · exact absurd h1 (check_not_abandoned _ _ s2)

/-- What a longword store does: it completes, or RES goes low on the way to it (R406). -/
theorem storeL_next {m : Mode} {rs : RegNum} {len : Nat} {s t : State} (h : storeL rs m len s = .next t) :
    m.modifies ≠ some rs ∧
      ((∃ s1, (s.preDecrement 4 m).storeLong (window len) (s.ea 4 m) (s.reg32 rs) = .ok s1 ∧
        t = (s1.setCcr (flagsNZ0 (s.reg32 rs) s.ccr)).advance len) ∨
      ∃ s1, (s.preDecrement 4 m).storeLong (window len) (s.ea 4 m) (s.reg32 rs) = .error (.abandoned s1) ∧
        t = s1.abandon) := by
  rcases finish_bind_next h with ⟨u, h1, h2⟩ | ⟨s2, h1, -⟩
  · rcases finish_bind_next h2 with ⟨s1, h3, h4⟩ | ⟨s1, h3, rfl⟩
    · cases h4
      exact ⟨check_ok.mp h1, .inl ⟨s1, h3, rfl⟩⟩
    · exact ⟨check_ok.mp h1, .inr ⟨s1, h3, rfl⟩⟩
  · exact absurd h1 (check_not_abandoned _ _ s2)

/-- What LDC from memory does. -/
theorem loadCcr_next {m : Mode} {len : Nat} {s t : State} (h : loadCcr m len s = .next t) :
    ∃ w s1, s.readWord (s.ea 2 m) = .ok (w, s1) ∧
      t = (((s1.postIncrement 2 m).setCcr (w.extractLsb' 8 8)).advance len).holdOff := by
  rcases finish_bind_next h with ⟨⟨w, s1⟩, h1, h2⟩ | ⟨s2, h1, -⟩
  · cases h2
    exact ⟨w, s1, h1, rfl⟩
  · exact absurd h1 (readWord_not_abandoned s s2 _)

/-- What STC to memory does: it completes, or RES goes low on the way to it (R406). -/
theorem storeCcr_next {m : Mode} {len : Nat} {s t : State} (h : storeCcr m len s = .next t) :
    (∃ s1, ((s.drawn 1).preDecrement 2 m).storeWord (window len) (s.ea 2 m) (s.ccr ++ s.freeByte) = .ok s1 ∧
      t = s1.advance len) ∨
    ∃ s1, ((s.drawn 1).preDecrement 2 m).storeWord (window len) (s.ea 2 m) (s.ccr ++ s.freeByte) =
      .error (.abandoned s1) ∧ t = s1.abandon := by
  rcases finish_bind_next h with ⟨s1, h1, h2⟩ | ⟨s1, h1, rfl⟩
  · cases h2
    exact .inl ⟨s1, h1, rfl⟩
  · exact .inr ⟨s1, h1, rfl⟩

/-! ### Bit operands (R270, R286) -/

/-- Reading the operand of a bit instruction is never abandoned. -/
theorem readBitOperand_not_abandoned (s t : State) (o : BitOperand) : s.readBitOperand o ≠ .error (.abandoned t) := by
  cases o with
  | reg rd => simp [State.readBitOperand]
  | ind n => exact readByte_not_abandoned s t _
  | abs8 aa => exact readByte_not_abandoned s t _

/-- What a writing bit instruction does: one read, one write to the same place, unless RES goes low before the write
(R406). -/
theorem modifyBit_next {f : Bool → Bool} {b : BitVec 3} {o : BitOperand} {s t : State}
    (h : modifyBit f b o s = .next t) :
    ∃ v s1, s.readBitOperand o = .ok (v, s1) ∧
      ((∃ s2, s1.writeBitOperand (putBit v b (f (bitOfByte v b))) o = .ok s2 ∧ t = s2.advance o.len) ∨
      ∃ s2, s1.writeBitOperand (putBit v b (f (bitOfByte v b))) o = .error (.abandoned s2) ∧ t = s2.abandon) := by
  rcases finish_bind_next h with ⟨⟨v, s1⟩, h1, h2⟩ | ⟨s2, h1, -⟩
  · refine ⟨v, s1, h1, ?_⟩
    rcases finish_bind_next h2 with ⟨s2, h3, h4⟩ | ⟨s2, h3, rfl⟩
    · cases h4
      exact .inl ⟨s2, h3, rfl⟩
    · exact .inr ⟨s2, h3, rfl⟩
  · exact absurd h1 (readBitOperand_not_abandoned s s2 o)

/-- What a read-only bit instruction does: one read, one flag. -/
theorem testBit_next {f : Flag} {g : Bool → Bool} {b : BitVec 3} {o : BitOperand} {s t : State}
    (h : testBit f g b o s = .next t) :
    ∃ v s1, s.readBitOperand o = .ok (v, s1) ∧
      t = (s1.setCcr (setFlag s.ccr f (g (bitOfByte v b)))).advance o.len := by
  rcases finish_bind_next h with ⟨⟨v, s1⟩, h1, h2⟩ | ⟨s2, h1, -⟩
  · cases h2
    exact ⟨v, s1, h1, rfl⟩
  · exact absurd h1 (readBitOperand_not_abandoned s s2 o)

end Sys2Proof.Machine
end

