-- ==== Sys2Proof/Laws/Canonical.lean ====
section
/-! SUPPORT. Every memory operation keeps the canonical form of memory, and the memory after reset has it. -/

namespace Sys2Proof.Machine

/-- A register write leaves memory alone. -/
theorem writeReg_mem (s : State) (r : IoReg) (v : Byte) : (s.writeReg r v).mem = s.mem := by
  cases r <;> rfl

/-- A property of states that holds of the state a result ends in, be it at its end or where RES went low (R406). -/
def Keeps (P : State → Prop) (x : Res State) : Prop :=
  (∀ t, x = .ok t → P t) ∧ ∀ t, x = .error (.abandoned t) → P t

/-- A property that a sequence keeps in its first part and in the rest, it keeps. -/
theorem Keeps.bind {P : State → Prop} {x : Res State} {f : State → Res State} (hx : Keeps P x)
    (hf : ∀ s, P s → Keeps P (f s)) : Keeps P (x >>= f) := by
  refine ⟨fun t h => ?_, fun t h => ?_⟩
  · obtain ⟨a, h1, h2⟩ := bind_ok h
    exact (hf a (hx.1 a h1)).1 t h2
  · rcases bind_error h with h | ⟨a, h1, h2⟩
    · exact hx.2 t h
    · exact (hf a (hx.1 a h1)).2 t h2

/-- A property that a result keeps, and that abandoning an instruction keeps, holds of the outcome. -/
theorem Keeps.finish {P : State → Prop} {x : Res State} (hx : Keeps P x) (ha : ∀ s, P s → P s.abandon) {t : State}
    (h : Machine.finish x = .next t) : P t := by
  rcases finish_next.mp h with h' | ⟨s, h', rfl⟩
  · exact hx.1 t h'
  · exact ha s (hx.2 s h')

/-- A property of states that a byte write to any place keeps, and the count of writes and the calls of devices too. -/
structure Stable (P : State → Prop) : Prop where
  counted : ∀ s, P s → P { s with resDuring := s.resDuring.map fun k => k - 1 }
  call : ∀ s a n v, P s → P (s.callWrite a n v)
  write : ∀ s t a v, P s → s.writeByte a v = .ok t → P t

theorem Stable.admitStore {P : State → Prop} (hP : Stable P) {s : State} (hs : P s) (w nb : Nat) (a : Addr) :
    Keeps P (s.admitStore w nb a) := by
  refine ⟨fun t h => ?_, fun t h => ?_⟩
  · obtain ⟨-, -, rfl⟩ := admitStore_ok h
    exact hP.counted s hs
  · obtain ⟨-, rfl⟩ := admitStore_abandoned.mp h
    exact hs

/-- What every byte write keeps, a byte write that stops keeps too. -/
theorem Stable.writeByte {P : State → Prop} (hP : Stable P) {s : State} (hs : P s) (a : Addr) (v : Byte) :
    Keeps P (s.writeByte a v) :=
  ⟨fun t h => hP.write s t a v hs h, fun t h => absurd h (writeByte_not_abandoned s t a v)⟩

/-- What every byte write keeps, a word written in one bus cycle keeps. -/
theorem Stable.writeWord {P : State → Prop} (hP : Stable P) {s : State} (hs : P s) (a : Addr) (v : Word) :
    Keeps P (s.writeWord a v) := by
  unfold State.writeWord
  split
  · exact ⟨fun t h => by cases h; exact hP.call _ _ _ _ hs, fun t h => by cases h⟩
  · exact (hP.writeByte hs _ _).bind fun _ h1 => hP.writeByte h1 _ _

/-- What every byte write keeps, a stored byte keeps. -/
theorem Stable.storeByte {P : State → Prop} (hP : Stable P) {s : State} (hs : P s) (w : Nat) (a : Addr) (v : Byte) :
    Keeps P (s.storeByte w a v) :=
  (hP.admitStore hs w 1 a).bind fun _ h1 => hP.writeByte h1 _ _

/-- What every byte write keeps, a stored word keeps. -/
theorem Stable.storeWord {P : State → Prop} (hP : Stable P) {s : State} (hs : P s) (w : Nat) (a : Addr) (v : Word) :
    Keeps P (s.storeWord w a v) := by
  unfold State.storeWord
  split
  · exact (hP.admitStore hs w 2 _).bind fun _ h1 => hP.writeWord h1 _ _
  · exact (hP.storeByte hs w _ _).bind fun _ h1 => hP.storeByte h1 w _ _

/-- What every byte write keeps, a stored longword keeps. -/
theorem Stable.storeLong {P : State → Prop} (hP : Stable P) {s : State} (hs : P s) (w : Nat) (a : Addr) (v : Long) :
    Keeps P (s.storeLong w a v) :=
  (hP.storeWord hs w _ _).bind fun _ h1 => hP.storeWord h1 w _ _

/-- A byte write keeps the canonical form. -/
theorem writeByte_wf {s t : State} {a : Addr} {v : Byte} (hs : s.mem.wf = true) (h : s.writeByte a v = .ok t) :
    t.mem.wf = true := by
  rcases writeByte_ok h with ⟨k, -, rfl⟩ | ⟨-, rfl⟩ | ⟨w, -, rfl⟩ | ⟨r, -, rfl⟩
  · exact Memory.wf_write k v hs
  · exact hs
  · exact hs
  · rw [writeReg_mem]; exact hs

/-- The canonical form is kept by every write of an instruction, also where RES goes low among them. -/
theorem wf_stable : Stable fun s => s.mem.wf = true where
  counted _ h := h
  call _ _ _ _ h := h
  write _ _ _ _ h hw := writeByte_wf h hw

/-- The program counter is not changed by any write of an instruction. -/
theorem pc_stable (p : Addr) : Stable fun s => s.pc = p where
  counted _ h := h
  call _ _ _ _ h := h
  write s t a v h hw := by
    rcases writeByte_ok hw with ⟨k, -, rfl⟩ | ⟨-, rfl⟩ | ⟨w, -, rfl⟩ | ⟨r, -, rfl⟩
    · exact h
    · exact h
    · exact h
    · cases r <;> exact h

/-- That RES goes low during an instruction is not forgotten by any write of it. -/
theorem resDuring_stable : Stable fun s => s.resDuring ≠ none where
  counted s h := by simpa using h
  call _ _ _ _ h := h
  write s t a v h hw := by
    rcases writeByte_ok hw with ⟨k, -, rfl⟩ | ⟨-, rfl⟩ | ⟨w, -, rfl⟩ | ⟨r, -, rfl⟩
    · exact h
    · exact h
    · exact h
    · cases r <;> exact h

/-- Noting a read leaves memory alone. -/
@[simp] theorem noteRead_mem (s : State) (a : Addr) : (s.noteRead a).mem = s.mem := by
  obtain ⟨r, d, c, k, h⟩ := noteRead_eq s a
  rw [h]

/-- A word read leaves memory alone. -/
theorem readWord_mem {s t : State} {a : Addr} {v : Word} (h : s.readWord a = .ok (v, t)) : t.mem = s.mem := by
  rcases readWord_ok h with ⟨-, -, rfl⟩ | ⟨-, hi, lo, s1, h1, h2, -⟩
  · rfl
  · obtain ⟨-, rfl⟩ := readByte_ok h1
    obtain ⟨-, rfl⟩ := readByte_ok h2
    simp

/-- A longword read leaves memory alone. -/
theorem readLong_mem {s t : State} {a : Addr} {v : Long} (h : s.readLong a = .ok (v, t)) : t.mem = s.mem := by
  obtain ⟨hi, lo, s1, h1, h2, -⟩ := readLong_ok h
  rw [readWord_mem h2, readWord_mem h1]

/-- A fetch leaves memory alone. -/
theorem afterFetch_mem (k : Nat) (a : Addr) (s : State) : (State.afterFetch k a s).mem = s.mem := by
  induction k generalizing a s with
  | zero => rfl
  | succ k ih =>
    unfold State.afterFetch
    split
    · rfl
    · rw [ih, readWord_mem (by assumption)]

/-- Placing a byte keeps the canonical form. -/
theorem placeByte_wf {s : State} (a : Addr) (v : Byte) (hs : s.mem.wf = true) : (s.placeByte a v).mem.wf = true := by
  unfold State.placeByte
  split <;> first | exact Memory.wf_write _ v hs | exact hs

/-- Placing bytes keeps the canonical form. -/
theorem placeBytes_wf (bs : List Byte) {s : State} (a : Addr) (hs : s.mem.wf = true) :
    (State.placeBytes bs a s).mem.wf = true := by
  induction bs generalizing a s with
  | nil => exact hs
  | cons b bs ih => exact ih (a + 1) (placeByte_wf a b hs)

/-- Placing an instruction keeps the canonical form. -/
theorem withFetchWord_wf {s : State} (nbits w : Nat) (hs : s.mem.wf = true) : (s.withFetchWord nbits w).mem.wf = true :=
  placeBytes_wf _ _ hs

/-- Free values in cells keep the canonical form. -/
theorem freeCells_wf (which : Nat → Bool) (n a : Nat) {s : State} (hs : s.mem.wf = true) :
    (s.freeCells which n a).mem.wf = true := Memory.wf_scramble _ _ n a hs

/-- A reset of the modules keeps the canonical form. -/
theorem resetModules_wf (ports : Bool) {s : State} (hs : s.mem.wf = true) : (s.resetModules ports).mem.wf = true := by
  rw [State.resetModules_mem]
  exact freeCells_wf _ _ _ hs

/-- Entering the reset state keeps the canonical form. -/
theorem enterReset_wf {s : State} (hs : s.mem.wf = true) : s.enterReset.mem.wf = true := resetModules_wf true hs

/-- The memory after reset is in its canonical form. -/
theorem reset_wf : State.reset.mem.wf = true := rfl

end Sys2Proof.Machine
end

