-- ==== Sys2Proof/Laws/Decode.lean ====
section
/-! SUPPORT. Reading back a field that the encoder wrote, and bytes made of nibbles. -/

namespace Sys2Proof

/-! ### Register and bit-number fields (R114, R115) -/

@[simp] theorem RegNum.ofNibble_low (n : RegNum) : RegNum.ofNibble n.low = n := by
  revert n; decide
@[simp] theorem RegNum.ofNibble_high (n : RegNum) : RegNum.ofNibble n.high = n := by
  revert n; decide
@[simp] theorem RegNum.low_toNat (n : RegNum) : n.low.toNat = n.val := by
  revert n; decide
@[simp] theorem RegNum.high_toNat (n : RegNum) : n.high.toNat = n.val + 8 := by
  revert n; decide
@[simp] theorem lowReg_low (n : RegNum) : lowReg n.low = .ok n := by
  simp [lowReg]
@[simp] theorem Reg8.ofNibble_nibble (r : Reg8) : Reg8.ofNibble r.nibble = r := by
  cases r with
  | h n => revert n; decide
  | l n => revert n; decide
@[simp] theorem Reg16.ofNibble_nibble (r : Reg16) : Reg16.ofNibble r.nibble = r := by
  cases r with
  | r n => revert n; decide
  | e n => revert n; decide
@[simp] theorem bitLow_toNat (b : BitVec 3) : (bitLow b).toNat = b.toNat := by
  revert b; decide
@[simp] theorem bitHigh_toNat (b : BitVec 3) : (bitHigh b).toNat = b.toNat + 8 := by
  revert b; decide
@[simp] theorem bitOf_bitLow (b : BitVec 3) : bitOf (bitLow b) = b := by
  revert b; decide
@[simp] theorem bitOf_bitHigh (b : BitVec 3) : bitOf (bitHigh b) = b := by
  revert b; decide
@[simp] theorem bit_toNat_lt (b : BitVec 3) : b.toNat < 8 := b.isLt
@[simp] theorem lowBit_bitLow (b : BitVec 3) : lowBit (bitLow b) = .ok b := by
  simp [lowBit]
@[simp] theorem zeroNibble_zero : zeroNibble 0#4 = .ok () := rfl
@[simp] theorem trapField (v : BitVec 2) : BitVec.ofNat 2 (BitVec.ofNat 4 v.toNat).toNat = v := by
  revert v; decide
@[simp] theorem trapField_lt (v : BitVec 2) : (BitVec.ofNat 4 v.toNat).toNat < 4 := by
  revert v; decide

/-! ### Immediates, displacements, addresses (R115 to R117) -/

@[simp] theorem byteOf_nibbles (v : BitVec 8) : byteOf (v.extractLsb' 4 4) (v.extractLsb' 0 4) = v := by
  revert v; decide

/-- A nibble put under a bit vector. -/
theorem toNat_append_nibble {n : Nat} (x : BitVec n) (d : Nibble) : (x ++ d).toNat = x.toNat * 16 + d.toNat := by
  rw [BitVec.toNat_append, ← Nat.shiftLeft_add_eq_or_of_lt d.isLt, Nat.shiftLeft_eq]

theorem toNat_join16 (a b c d : Nibble) :
    BitVec.toNat (w := 16) (a ++ b ++ c ++ d) = ((a.toNat * 16 + b.toNat) * 16 + c.toNat) * 16 + d.toNat := by
  refine (toNat_append_nibble (a ++ b ++ c) d).trans ?_
  rw [toNat_append_nibble, toNat_append_nibble]

theorem toNat_join24 (a b c d e f : Nibble) :
    BitVec.toNat (w := 24) (a ++ b ++ c ++ d ++ e ++ f) =
      ((((a.toNat * 16 + b.toNat) * 16 + c.toNat) * 16 + d.toNat) * 16 + e.toNat) * 16 + f.toNat := by
  refine (toNat_append_nibble (a ++ b ++ c ++ d ++ e) f).trans ?_
  simp only [toNat_append_nibble]

theorem toNat_join32 (a b c d e f g h : Nibble) :
    BitVec.toNat (w := 32) (a ++ b ++ c ++ d ++ e ++ f ++ g ++ h) =
      ((((((a.toNat * 16 + b.toNat) * 16 + c.toNat) * 16 + d.toNat) * 16 + e.toNat) * 16 + f.toNat) * 16
        + g.toNat) * 16 + h.toNat := by
  refine (toNat_append_nibble (a ++ b ++ c ++ d ++ e ++ f ++ g) h).trans ?_
  simp only [toNat_append_nibble]

@[simp] theorem wordField_nibbles16 (v : BitVec 16) (rest : List Nibble) :
    wordField (nibbles16 v ++ rest) = .ok v := by
  refine congrArg Except.ok (BitVec.eq_of_toNat_eq ?_)
  rw [toNat_join16]
  simp only [BitVec.extractLsb'_toNat, Nat.shiftRight_eq_div_pow]
  have := v.isLt
  omega

@[simp] theorem wordField_nibbles16_nil (v : BitVec 16) : wordField (nibbles16 v) = .ok v := by
  have := wordField_nibbles16 v []
  rwa [List.append_nil] at this

@[simp] theorem longField_nibbles32 (v : BitVec 32) (rest : List Nibble) :
    longField (nibbles32 v ++ rest) = .ok v := by
  refine congrArg Except.ok (BitVec.eq_of_toNat_eq ?_)
  rw [toNat_join32]
  simp only [BitVec.extractLsb'_toNat, Nat.shiftRight_eq_div_pow]
  have := v.isLt
  omega

theorem addrOf_nibbles (v : BitVec 24) :
    addrOf (v.extractLsb' 20 4) (v.extractLsb' 16 4) (v.extractLsb' 12 4) (v.extractLsb' 8 4) (v.extractLsb' 4 4)
      (v.extractLsb' 0 4) = v := by
  refine BitVec.eq_of_toNat_eq ?_
  rw [addrOf, toNat_join24]
  simp only [BitVec.extractLsb'_toNat, Nat.shiftRight_eq_div_pow]
  have := v.isLt
  omega

/-- The six nibbles of a 24-bit field, written out. -/
theorem nibbles24_eq (v : BitVec 24) :
    nibbles24 v = [v.extractLsb' 20 4, v.extractLsb' 16 4, v.extractLsb' 12 4, v.extractLsb' 8 4, v.extractLsb' 4 4,
      v.extractLsb' 0 4] := by
  simp only [nibbles24, nibbles16, nibbles8, List.cons_append, List.nil_append, List.cons.injEq, and_true]
  refine ⟨?_, ?_, ?_, ?_, ?_, ?_⟩ <;> refine BitVec.eq_of_toNat_eq ?_ <;>
    simp only [BitVec.extractLsb'_toNat, Nat.shiftRight_eq_div_pow] <;> omega

@[simp] theorem paddedField_nibbles24 (v : BitVec 24) (rest : List Nibble) :
    paddedField (0#4 :: 0#4 :: (nibbles24 v ++ rest)) = .ok v := by
  rw [nibbles24_eq]
  simp only [List.cons_append, List.nil_append, paddedField]
  simp [addrOf_nibbles]

/-! ### Bytes made of nibbles -/

theorem upper_byteOf (a b : Nibble) : (byteOf a b).extractLsb' 4 4 = a := by
  revert a b; decide

theorem lower_byteOf (a b : Nibble) : (byteOf a b).extractLsb' 0 4 = b := by
  revert a b; decide

/-- Nibbles survive the packing into bytes, if there is an even number of them. -/
theorem nibblesOfBytes_bytesOfNibbles (ns : List Nibble) (bs : List Byte) (h : ns.length % 2 = 0) :
    nibblesOfBytes (bytesOfNibbles ns ++ bs) = ns ++ nibblesOfBytes bs := by
  match ns, h with
  | [], _ => rfl
  | [_], h => simp at h
  | a :: b :: rest, h =>
    have hr : rest.length % 2 = 0 := by simp only [List.length_cons] at h; omega
    have ih := nibblesOfBytes_bytesOfNibbles rest bs hr
    simp only [bytesOfNibbles, List.cons_append, nibblesOfBytes, nibbles8, ih, upper_byteOf, lower_byteOf, List.nil_append]

end Sys2Proof
end

