-- ==== Sys2Proof/Laws/Flags.lean ====
section
/-! SUPPORT. One bit of CCR after writing one, and each flag after each flag operation. -/

namespace Sys2Proof.Machine

theorem Flag.index_lt (f : Flag) : f.index < 8 := by cases f <;> decide

theorem Flag.index_injective {f g : Flag} (h : f.index = g.index) : f = g := by
  cases f <;> cases g <;> first | rfl | exact absurd h (by decide)

@[simp] theorem getFlag_setFlag_same (ccr : Byte) (f : Flag) (b : Bool) : getFlag (setFlag ccr f b) f = b := by
  have h := f.index_lt
  cases b <;> simp [getFlag, setFlag, h]

theorem getFlag_setFlag_other (ccr : Byte) {f g : Flag} (b : Bool) (h : g ≠ f) :
    getFlag (setFlag ccr f b) g = getFlag ccr g := by
  have hg := g.index_lt
  have hne : g.index ≠ f.index := fun e => h (Flag.index_injective e)
  have hb : (1#8 <<< f.index).getLsbD g.index = false := by
    rw [BitVec.getLsbD_shiftLeft]
    by_cases hl : g.index < f.index
    · simp [hl]
    · have h1 : ¬(g.index - f.index = 0) := by omega
      simp [BitVec.getLsbD_one, h1]
  cases b <;> simp only [getFlag, setFlag, Bool.false_eq_true, if_true, if_false, BitVec.getLsbD_and,
    BitVec.getLsbD_or, BitVec.getLsbD_not, hg, hb] <;> simp

/-- A flag after writing a flag. -/
@[simp] theorem getFlag_setFlag (ccr : Byte) (f g : Flag) (b : Bool) :
    getFlag (setFlag ccr f b) g = if g = f then b else getFlag ccr g := by
  by_cases h : g = f
  · subst h; simp
  · rw [getFlag_setFlag_other ccr b h, if_neg h]

/-- A byte is its bits: two values of CCR with the same flags are the same. -/
theorem ccr_ext {x y : Byte} (h : ∀ f, getFlag x f = getFlag y f) : x = y := by
  apply BitVec.eq_of_getLsbD_eq
  intro i hi
  have : i = 0 ∨ i = 1 ∨ i = 2 ∨ i = 3 ∨ i = 4 ∨ i = 5 ∨ i = 6 ∨ i = 7 := by omega
  rcases this with rfl | rfl | rfl | rfl | rfl | rfl | rfl | rfl
  · exact h .C
  · exact h .V
  · exact h .Z
  · exact h .N
  · exact h .U
  · exact h .H
  · exact h .UI
  · exact h .I

/-- Each flag after `flagsNZ`. -/
theorem getFlag_flagsNZ {n : Nat} (r : BitVec n) (ccr : Byte) (g : Flag) :
    getFlag (flagsNZ r ccr) g = if g = .Z then (r == 0) else if g = .N then r.msb else getFlag ccr g := by
  simp [flagsNZ]

/-- Each flag after `flagsNZ0`. -/
theorem getFlag_flagsNZ0 {n : Nat} (r : BitVec n) (ccr : Byte) (g : Flag) :
    getFlag (flagsNZ0 r ccr) g =
      if g = .V then false else if g = .Z then (r == 0) else if g = .N then r.msb else getFlag ccr g := by
  simp [flagsNZ0, flagsNZ]

/-- Each flag after `flagsShift`. -/
theorem getFlag_flagsShift {n : Nat} (r : BitVec n) (v c : Bool) (ccr : Byte) (g : Flag) :
    getFlag (flagsShift r v c ccr) g =
      if g = .C then c else if g = .V then v else
        if g = .Z then (r == 0) else if g = .N then r.msb else getFlag ccr g := by
  simp [flagsShift, flagsNZ]

end Sys2Proof.Machine
end

