-- ==== Sys2Proof/Laws/PerInstr.lean ====
section
/-! SUPPORT. Statements about every instruction, one lemma per constructor. `Length`: an instruction is 2, 4, 6, 8 or 10
bytes long, that is 4, 8, 12, 16 or 20 nibbles (R111). -/

namespace Sys2Proof.Laws

/-- The encoding is a whole number of words, one to five (R111). -/
def Length.Statement (i : Instr) : Prop := (encodeNibbles i).length ∈ [4, 8, 12, 16, 20]

theorem Length.movBRegReg (rs rd : Reg8) :
    Length.Statement (.movBRegReg rs rd) := List.mem_of_elem_eq_true rfl
theorem Length.movWRegReg (rs rd : Reg16) :
    Length.Statement (.movWRegReg rs rd) := List.mem_of_elem_eq_true rfl
theorem Length.movLRegReg (ers erd : RegNum) :
    Length.Statement (.movLRegReg ers erd) := List.mem_of_elem_eq_true rfl
theorem Length.movBImm (imm : BitVec 8) (rd : Reg8) :
    Length.Statement (.movBImm imm rd) := List.mem_of_elem_eq_true rfl
theorem Length.movWImm (imm : BitVec 16) (rd : Reg16) :
    Length.Statement (.movWImm imm rd) := List.mem_of_elem_eq_true rfl
theorem Length.movLImm (imm : BitVec 32) (erd : RegNum) :
    Length.Statement (.movLImm imm erd) := List.mem_of_elem_eq_true rfl
theorem Length.movBLoadInd (ers : RegNum) (rd : Reg8) :
    Length.Statement (.movBLoadInd ers rd) := List.mem_of_elem_eq_true rfl
theorem Length.movBLoadDisp16 (disp : BitVec 16) (ers : RegNum) (rd : Reg8) :
    Length.Statement (.movBLoadDisp16 disp ers rd) := List.mem_of_elem_eq_true rfl
theorem Length.movBLoadDisp24 (disp : BitVec 24) (ers : RegNum) (rd : Reg8) :
    Length.Statement (.movBLoadDisp24 disp ers rd) := List.mem_of_elem_eq_true rfl
theorem Length.movBLoadPostInc (ers : RegNum) (rd : Reg8) :
    Length.Statement (.movBLoadPostInc ers rd) := List.mem_of_elem_eq_true rfl
theorem Length.movBLoadAbs8 (aa : BitVec 8) (rd : Reg8) :
    Length.Statement (.movBLoadAbs8 aa rd) := List.mem_of_elem_eq_true rfl
theorem Length.movBLoadAbs16 (aa : BitVec 16) (rd : Reg8) :
    Length.Statement (.movBLoadAbs16 aa rd) := List.mem_of_elem_eq_true rfl
theorem Length.movBLoadAbs24 (aa : BitVec 24) (rd : Reg8) :
    Length.Statement (.movBLoadAbs24 aa rd) := List.mem_of_elem_eq_true rfl
theorem Length.movWLoadInd (ers : RegNum) (rd : Reg16) :
    Length.Statement (.movWLoadInd ers rd) := List.mem_of_elem_eq_true rfl
theorem Length.movWLoadDisp16 (disp : BitVec 16) (ers : RegNum) (rd : Reg16) :
    Length.Statement (.movWLoadDisp16 disp ers rd) := List.mem_of_elem_eq_true rfl
theorem Length.movWLoadDisp24 (disp : BitVec 24) (ers : RegNum) (rd : Reg16) :
    Length.Statement (.movWLoadDisp24 disp ers rd) := List.mem_of_elem_eq_true rfl
theorem Length.movWLoadPostInc (ers : RegNum) (rd : Reg16) :
    Length.Statement (.movWLoadPostInc ers rd) := List.mem_of_elem_eq_true rfl
theorem Length.movWLoadAbs16 (aa : BitVec 16) (rd : Reg16) :
    Length.Statement (.movWLoadAbs16 aa rd) := List.mem_of_elem_eq_true rfl
theorem Length.movWLoadAbs24 (aa : BitVec 24) (rd : Reg16) :
    Length.Statement (.movWLoadAbs24 aa rd) := List.mem_of_elem_eq_true rfl
theorem Length.movLLoadInd (ers erd : RegNum) :
    Length.Statement (.movLLoadInd ers erd) := List.mem_of_elem_eq_true rfl
theorem Length.movLLoadDisp16 (disp : BitVec 16) (ers erd : RegNum) :
    Length.Statement (.movLLoadDisp16 disp ers erd) := List.mem_of_elem_eq_true rfl
theorem Length.movLLoadDisp24 (disp : BitVec 24) (ers erd : RegNum) :
    Length.Statement (.movLLoadDisp24 disp ers erd) := List.mem_of_elem_eq_true rfl
theorem Length.movLLoadPostInc (ers erd : RegNum) :
    Length.Statement (.movLLoadPostInc ers erd) := List.mem_of_elem_eq_true rfl
theorem Length.movLLoadAbs16 (aa : BitVec 16) (erd : RegNum) :
    Length.Statement (.movLLoadAbs16 aa erd) := List.mem_of_elem_eq_true rfl
theorem Length.movLLoadAbs24 (aa : BitVec 24) (erd : RegNum) :
    Length.Statement (.movLLoadAbs24 aa erd) := List.mem_of_elem_eq_true rfl
theorem Length.movBStoreInd (rs : Reg8) (erd : RegNum) :
    Length.Statement (.movBStoreInd rs erd) := List.mem_of_elem_eq_true rfl
theorem Length.movBStoreDisp16 (rs : Reg8) (disp : BitVec 16) (erd : RegNum) :
    Length.Statement (.movBStoreDisp16 rs disp erd) := List.mem_of_elem_eq_true rfl
theorem Length.movBStoreDisp24 (rs : Reg8) (disp : BitVec 24) (erd : RegNum) :
    Length.Statement (.movBStoreDisp24 rs disp erd) := List.mem_of_elem_eq_true rfl
theorem Length.movBStorePreDec (rs : Reg8) (erd : RegNum) :
    Length.Statement (.movBStorePreDec rs erd) := List.mem_of_elem_eq_true rfl
theorem Length.movBStoreAbs8 (rs : Reg8) (aa : BitVec 8) :
    Length.Statement (.movBStoreAbs8 rs aa) := List.mem_of_elem_eq_true rfl
theorem Length.movBStoreAbs16 (rs : Reg8) (aa : BitVec 16) :
    Length.Statement (.movBStoreAbs16 rs aa) := List.mem_of_elem_eq_true rfl
theorem Length.movBStoreAbs24 (rs : Reg8) (aa : BitVec 24) :
    Length.Statement (.movBStoreAbs24 rs aa) := List.mem_of_elem_eq_true rfl
theorem Length.movWStoreInd (rs : Reg16) (erd : RegNum) :
    Length.Statement (.movWStoreInd rs erd) := List.mem_of_elem_eq_true rfl
theorem Length.movWStoreDisp16 (rs : Reg16) (disp : BitVec 16) (erd : RegNum) :
    Length.Statement (.movWStoreDisp16 rs disp erd) := List.mem_of_elem_eq_true rfl
theorem Length.movWStoreDisp24 (rs : Reg16) (disp : BitVec 24) (erd : RegNum) :
    Length.Statement (.movWStoreDisp24 rs disp erd) := List.mem_of_elem_eq_true rfl
theorem Length.movWStorePreDec (rs : Reg16) (erd : RegNum) :
    Length.Statement (.movWStorePreDec rs erd) := List.mem_of_elem_eq_true rfl
theorem Length.movWStoreAbs16 (rs : Reg16) (aa : BitVec 16) :
    Length.Statement (.movWStoreAbs16 rs aa) := List.mem_of_elem_eq_true rfl
theorem Length.movWStoreAbs24 (rs : Reg16) (aa : BitVec 24) :
    Length.Statement (.movWStoreAbs24 rs aa) := List.mem_of_elem_eq_true rfl
theorem Length.movLStoreInd (ers erd : RegNum) :
    Length.Statement (.movLStoreInd ers erd) := List.mem_of_elem_eq_true rfl
theorem Length.movLStoreDisp16 (ers : RegNum) (disp : BitVec 16) (erd : RegNum) :
    Length.Statement (.movLStoreDisp16 ers disp erd) := List.mem_of_elem_eq_true rfl
theorem Length.movLStoreDisp24 (ers : RegNum) (disp : BitVec 24) (erd : RegNum) :
    Length.Statement (.movLStoreDisp24 ers disp erd) := List.mem_of_elem_eq_true rfl
theorem Length.movLStorePreDec (ers erd : RegNum) :
    Length.Statement (.movLStorePreDec ers erd) := List.mem_of_elem_eq_true rfl
theorem Length.movLStoreAbs16 (ers : RegNum) (aa : BitVec 16) :
    Length.Statement (.movLStoreAbs16 ers aa) := List.mem_of_elem_eq_true rfl
theorem Length.movLStoreAbs24 (ers : RegNum) (aa : BitVec 24) :
    Length.Statement (.movLStoreAbs24 ers aa) := List.mem_of_elem_eq_true rfl
theorem Length.movfpe (aa : BitVec 16) (rd : Reg8) :
    Length.Statement (.movfpe aa rd) := List.mem_of_elem_eq_true rfl
theorem Length.movtpe (rs : Reg8) (aa : BitVec 16) :
    Length.Statement (.movtpe rs aa) := List.mem_of_elem_eq_true rfl
theorem Length.popW (rd : Reg16) :
    Length.Statement (.popW rd) := List.mem_of_elem_eq_true rfl
theorem Length.popL (erd : RegNum) :
    Length.Statement (.popL erd) := List.mem_of_elem_eq_true rfl
theorem Length.pushW (rs : Reg16) :
    Length.Statement (.pushW rs) := List.mem_of_elem_eq_true rfl
theorem Length.pushL (ers : RegNum) :
    Length.Statement (.pushL ers) := List.mem_of_elem_eq_true rfl
theorem Length.addBImm (imm : BitVec 8) (rd : Reg8) :
    Length.Statement (.addBImm imm rd) := List.mem_of_elem_eq_true rfl
theorem Length.addBReg (rs rd : Reg8) :
    Length.Statement (.addBReg rs rd) := List.mem_of_elem_eq_true rfl
theorem Length.addWImm (imm : BitVec 16) (rd : Reg16) :
    Length.Statement (.addWImm imm rd) := List.mem_of_elem_eq_true rfl
theorem Length.addWReg (rs rd : Reg16) :
    Length.Statement (.addWReg rs rd) := List.mem_of_elem_eq_true rfl
theorem Length.addLImm (imm : BitVec 32) (erd : RegNum) :
    Length.Statement (.addLImm imm erd) := List.mem_of_elem_eq_true rfl
theorem Length.addLReg (ers erd : RegNum) :
    Length.Statement (.addLReg ers erd) := List.mem_of_elem_eq_true rfl
theorem Length.subBReg (rs rd : Reg8) :
    Length.Statement (.subBReg rs rd) := List.mem_of_elem_eq_true rfl
theorem Length.subWImm (imm : BitVec 16) (rd : Reg16) :
    Length.Statement (.subWImm imm rd) := List.mem_of_elem_eq_true rfl
theorem Length.subWReg (rs rd : Reg16) :
    Length.Statement (.subWReg rs rd) := List.mem_of_elem_eq_true rfl
theorem Length.subLImm (imm : BitVec 32) (erd : RegNum) :
    Length.Statement (.subLImm imm erd) := List.mem_of_elem_eq_true rfl
theorem Length.subLReg (ers erd : RegNum) :
    Length.Statement (.subLReg ers erd) := List.mem_of_elem_eq_true rfl
theorem Length.cmpBImm (imm : BitVec 8) (rd : Reg8) :
    Length.Statement (.cmpBImm imm rd) := List.mem_of_elem_eq_true rfl
theorem Length.cmpBReg (rs rd : Reg8) :
    Length.Statement (.cmpBReg rs rd) := List.mem_of_elem_eq_true rfl
theorem Length.cmpWImm (imm : BitVec 16) (rd : Reg16) :
    Length.Statement (.cmpWImm imm rd) := List.mem_of_elem_eq_true rfl
theorem Length.cmpWReg (rs rd : Reg16) :
    Length.Statement (.cmpWReg rs rd) := List.mem_of_elem_eq_true rfl
theorem Length.cmpLImm (imm : BitVec 32) (erd : RegNum) :
    Length.Statement (.cmpLImm imm erd) := List.mem_of_elem_eq_true rfl
theorem Length.cmpLReg (ers erd : RegNum) :
    Length.Statement (.cmpLReg ers erd) := List.mem_of_elem_eq_true rfl
theorem Length.negB (rd : Reg8) :
    Length.Statement (.negB rd) := List.mem_of_elem_eq_true rfl
theorem Length.negW (rd : Reg16) :
    Length.Statement (.negW rd) := List.mem_of_elem_eq_true rfl
theorem Length.negL (erd : RegNum) :
    Length.Statement (.negL erd) := List.mem_of_elem_eq_true rfl
theorem Length.addxImm (imm : BitVec 8) (rd : Reg8) :
    Length.Statement (.addxImm imm rd) := List.mem_of_elem_eq_true rfl
theorem Length.addxReg (rs rd : Reg8) :
    Length.Statement (.addxReg rs rd) := List.mem_of_elem_eq_true rfl
theorem Length.subxImm (imm : BitVec 8) (rd : Reg8) :
    Length.Statement (.subxImm imm rd) := List.mem_of_elem_eq_true rfl
theorem Length.subxReg (rs rd : Reg8) :
    Length.Statement (.subxReg rs rd) := List.mem_of_elem_eq_true rfl
theorem Length.incB (rd : Reg8) :
    Length.Statement (.incB rd) := List.mem_of_elem_eq_true rfl
theorem Length.incW (k : IncStep) (rd : Reg16) :
    Length.Statement (.incW k rd) := by
  cases k <;> exact List.mem_of_elem_eq_true rfl
theorem Length.incL (k : IncStep) (erd : RegNum) :
    Length.Statement (.incL k erd) := by
  cases k <;> exact List.mem_of_elem_eq_true rfl
theorem Length.decB (rd : Reg8) :
    Length.Statement (.decB rd) := List.mem_of_elem_eq_true rfl
theorem Length.decW (k : IncStep) (rd : Reg16) :
    Length.Statement (.decW k rd) := by
  cases k <;> exact List.mem_of_elem_eq_true rfl
theorem Length.decL (k : IncStep) (erd : RegNum) :
    Length.Statement (.decL k erd) := by
  cases k <;> exact List.mem_of_elem_eq_true rfl
theorem Length.adds (k : AddsStep) (erd : RegNum) :
    Length.Statement (.adds k erd) := by
  cases k <;> exact List.mem_of_elem_eq_true rfl
theorem Length.subs (k : AddsStep) (erd : RegNum) :
    Length.Statement (.subs k erd) := by
  cases k <;> exact List.mem_of_elem_eq_true rfl
theorem Length.mulxuB (rs : Reg8) (rd : Reg16) :
    Length.Statement (.mulxuB rs rd) := List.mem_of_elem_eq_true rfl
theorem Length.mulxuW (rs : Reg16) (erd : RegNum) :
    Length.Statement (.mulxuW rs erd) := List.mem_of_elem_eq_true rfl
theorem Length.mulxsB (rs : Reg8) (rd : Reg16) :
    Length.Statement (.mulxsB rs rd) := List.mem_of_elem_eq_true rfl
theorem Length.mulxsW (rs : Reg16) (erd : RegNum) :
    Length.Statement (.mulxsW rs erd) := List.mem_of_elem_eq_true rfl
theorem Length.daa (rd : Reg8) :
    Length.Statement (.daa rd) := List.mem_of_elem_eq_true rfl
theorem Length.das (rd : Reg8) :
    Length.Statement (.das rd) := List.mem_of_elem_eq_true rfl
theorem Length.divxuB (rs : Reg8) (rd : Reg16) :
    Length.Statement (.divxuB rs rd) := List.mem_of_elem_eq_true rfl
theorem Length.divxuW (rs : Reg16) (erd : RegNum) :
    Length.Statement (.divxuW rs erd) := List.mem_of_elem_eq_true rfl
theorem Length.divxsB (rs : Reg8) (rd : Reg16) :
    Length.Statement (.divxsB rs rd) := List.mem_of_elem_eq_true rfl
theorem Length.divxsW (rs : Reg16) (erd : RegNum) :
    Length.Statement (.divxsW rs erd) := List.mem_of_elem_eq_true rfl
theorem Length.extsW (rd : Reg16) :
    Length.Statement (.extsW rd) := List.mem_of_elem_eq_true rfl
theorem Length.extsL (erd : RegNum) :
    Length.Statement (.extsL erd) := List.mem_of_elem_eq_true rfl
theorem Length.extuW (rd : Reg16) :
    Length.Statement (.extuW rd) := List.mem_of_elem_eq_true rfl
theorem Length.extuL (erd : RegNum) :
    Length.Statement (.extuL erd) := List.mem_of_elem_eq_true rfl
theorem Length.andBImm (imm : BitVec 8) (rd : Reg8) :
    Length.Statement (.andBImm imm rd) := List.mem_of_elem_eq_true rfl
theorem Length.andBReg (rs rd : Reg8) :
    Length.Statement (.andBReg rs rd) := List.mem_of_elem_eq_true rfl
theorem Length.andWImm (imm : BitVec 16) (rd : Reg16) :
    Length.Statement (.andWImm imm rd) := List.mem_of_elem_eq_true rfl
theorem Length.andWReg (rs rd : Reg16) :
    Length.Statement (.andWReg rs rd) := List.mem_of_elem_eq_true rfl
theorem Length.andLImm (imm : BitVec 32) (erd : RegNum) :
    Length.Statement (.andLImm imm erd) := List.mem_of_elem_eq_true rfl
theorem Length.andLReg (ers erd : RegNum) :
    Length.Statement (.andLReg ers erd) := List.mem_of_elem_eq_true rfl
theorem Length.orBImm (imm : BitVec 8) (rd : Reg8) :
    Length.Statement (.orBImm imm rd) := List.mem_of_elem_eq_true rfl
theorem Length.orBReg (rs rd : Reg8) :
    Length.Statement (.orBReg rs rd) := List.mem_of_elem_eq_true rfl
theorem Length.orWImm (imm : BitVec 16) (rd : Reg16) :
    Length.Statement (.orWImm imm rd) := List.mem_of_elem_eq_true rfl
theorem Length.orWReg (rs rd : Reg16) :
    Length.Statement (.orWReg rs rd) := List.mem_of_elem_eq_true rfl
theorem Length.orLImm (imm : BitVec 32) (erd : RegNum) :
    Length.Statement (.orLImm imm erd) := List.mem_of_elem_eq_true rfl
theorem Length.orLReg (ers erd : RegNum) :
    Length.Statement (.orLReg ers erd) := List.mem_of_elem_eq_true rfl
theorem Length.xorBImm (imm : BitVec 8) (rd : Reg8) :
    Length.Statement (.xorBImm imm rd) := List.mem_of_elem_eq_true rfl
theorem Length.xorBReg (rs rd : Reg8) :
    Length.Statement (.xorBReg rs rd) := List.mem_of_elem_eq_true rfl
theorem Length.xorWImm (imm : BitVec 16) (rd : Reg16) :
    Length.Statement (.xorWImm imm rd) := List.mem_of_elem_eq_true rfl
theorem Length.xorWReg (rs rd : Reg16) :
    Length.Statement (.xorWReg rs rd) := List.mem_of_elem_eq_true rfl
theorem Length.xorLImm (imm : BitVec 32) (erd : RegNum) :
    Length.Statement (.xorLImm imm erd) := List.mem_of_elem_eq_true rfl
theorem Length.xorLReg (ers erd : RegNum) :
    Length.Statement (.xorLReg ers erd) := List.mem_of_elem_eq_true rfl
theorem Length.notB (rd : Reg8) :
    Length.Statement (.notB rd) := List.mem_of_elem_eq_true rfl
theorem Length.notW (rd : Reg16) :
    Length.Statement (.notW rd) := List.mem_of_elem_eq_true rfl
theorem Length.notL (erd : RegNum) :
    Length.Statement (.notL erd) := List.mem_of_elem_eq_true rfl
theorem Length.shalB (rd : Reg8) :
    Length.Statement (.shalB rd) := List.mem_of_elem_eq_true rfl
theorem Length.shalW (rd : Reg16) :
    Length.Statement (.shalW rd) := List.mem_of_elem_eq_true rfl
theorem Length.shalL (erd : RegNum) :
    Length.Statement (.shalL erd) := List.mem_of_elem_eq_true rfl
theorem Length.sharB (rd : Reg8) :
    Length.Statement (.sharB rd) := List.mem_of_elem_eq_true rfl
theorem Length.sharW (rd : Reg16) :
    Length.Statement (.sharW rd) := List.mem_of_elem_eq_true rfl
theorem Length.sharL (erd : RegNum) :
    Length.Statement (.sharL erd) := List.mem_of_elem_eq_true rfl
theorem Length.shllB (rd : Reg8) :
    Length.Statement (.shllB rd) := List.mem_of_elem_eq_true rfl
theorem Length.shllW (rd : Reg16) :
    Length.Statement (.shllW rd) := List.mem_of_elem_eq_true rfl
theorem Length.shllL (erd : RegNum) :
    Length.Statement (.shllL erd) := List.mem_of_elem_eq_true rfl
theorem Length.shlrB (rd : Reg8) :
    Length.Statement (.shlrB rd) := List.mem_of_elem_eq_true rfl
theorem Length.shlrW (rd : Reg16) :
    Length.Statement (.shlrW rd) := List.mem_of_elem_eq_true rfl
theorem Length.shlrL (erd : RegNum) :
    Length.Statement (.shlrL erd) := List.mem_of_elem_eq_true rfl
theorem Length.rotlB (rd : Reg8) :
    Length.Statement (.rotlB rd) := List.mem_of_elem_eq_true rfl
theorem Length.rotlW (rd : Reg16) :
    Length.Statement (.rotlW rd) := List.mem_of_elem_eq_true rfl
theorem Length.rotlL (erd : RegNum) :
    Length.Statement (.rotlL erd) := List.mem_of_elem_eq_true rfl
theorem Length.rotrB (rd : Reg8) :
    Length.Statement (.rotrB rd) := List.mem_of_elem_eq_true rfl
theorem Length.rotrW (rd : Reg16) :
    Length.Statement (.rotrW rd) := List.mem_of_elem_eq_true rfl
theorem Length.rotrL (erd : RegNum) :
    Length.Statement (.rotrL erd) := List.mem_of_elem_eq_true rfl
theorem Length.rotxlB (rd : Reg8) :
    Length.Statement (.rotxlB rd) := List.mem_of_elem_eq_true rfl
theorem Length.rotxlW (rd : Reg16) :
    Length.Statement (.rotxlW rd) := List.mem_of_elem_eq_true rfl
theorem Length.rotxlL (erd : RegNum) :
    Length.Statement (.rotxlL erd) := List.mem_of_elem_eq_true rfl
theorem Length.rotxrB (rd : Reg8) :
    Length.Statement (.rotxrB rd) := List.mem_of_elem_eq_true rfl
theorem Length.rotxrW (rd : Reg16) :
    Length.Statement (.rotxrW rd) := List.mem_of_elem_eq_true rfl
theorem Length.rotxrL (erd : RegNum) :
    Length.Statement (.rotxrL erd) := List.mem_of_elem_eq_true rfl
theorem Length.bsetImmReg (bit : BitVec 3) (rd : Reg8) :
    Length.Statement (.bsetImmReg bit rd) := List.mem_of_elem_eq_true rfl
theorem Length.bsetImmInd (bit : BitVec 3) (erd : RegNum) :
    Length.Statement (.bsetImmInd bit erd) := List.mem_of_elem_eq_true rfl
theorem Length.bsetImmAbs8 (bit : BitVec 3) (aa : BitVec 8) :
    Length.Statement (.bsetImmAbs8 bit aa) := List.mem_of_elem_eq_true rfl
theorem Length.bsetRegReg (rn rd : Reg8) :
    Length.Statement (.bsetRegReg rn rd) := List.mem_of_elem_eq_true rfl
theorem Length.bsetRegInd (rn : Reg8) (erd : RegNum) :
    Length.Statement (.bsetRegInd rn erd) := List.mem_of_elem_eq_true rfl
theorem Length.bsetRegAbs8 (rn : Reg8) (aa : BitVec 8) :
    Length.Statement (.bsetRegAbs8 rn aa) := List.mem_of_elem_eq_true rfl
theorem Length.bclrImmReg (bit : BitVec 3) (rd : Reg8) :
    Length.Statement (.bclrImmReg bit rd) := List.mem_of_elem_eq_true rfl
theorem Length.bclrImmInd (bit : BitVec 3) (erd : RegNum) :
    Length.Statement (.bclrImmInd bit erd) := List.mem_of_elem_eq_true rfl
theorem Length.bclrImmAbs8 (bit : BitVec 3) (aa : BitVec 8) :
    Length.Statement (.bclrImmAbs8 bit aa) := List.mem_of_elem_eq_true rfl
theorem Length.bclrRegReg (rn rd : Reg8) :
    Length.Statement (.bclrRegReg rn rd) := List.mem_of_elem_eq_true rfl
theorem Length.bclrRegInd (rn : Reg8) (erd : RegNum) :
    Length.Statement (.bclrRegInd rn erd) := List.mem_of_elem_eq_true rfl
theorem Length.bclrRegAbs8 (rn : Reg8) (aa : BitVec 8) :
    Length.Statement (.bclrRegAbs8 rn aa) := List.mem_of_elem_eq_true rfl
theorem Length.bnotImmReg (bit : BitVec 3) (rd : Reg8) :
    Length.Statement (.bnotImmReg bit rd) := List.mem_of_elem_eq_true rfl
theorem Length.bnotImmInd (bit : BitVec 3) (erd : RegNum) :
    Length.Statement (.bnotImmInd bit erd) := List.mem_of_elem_eq_true rfl
theorem Length.bnotImmAbs8 (bit : BitVec 3) (aa : BitVec 8) :
    Length.Statement (.bnotImmAbs8 bit aa) := List.mem_of_elem_eq_true rfl
theorem Length.bnotRegReg (rn rd : Reg8) :
    Length.Statement (.bnotRegReg rn rd) := List.mem_of_elem_eq_true rfl
theorem Length.bnotRegInd (rn : Reg8) (erd : RegNum) :
    Length.Statement (.bnotRegInd rn erd) := List.mem_of_elem_eq_true rfl
theorem Length.bnotRegAbs8 (rn : Reg8) (aa : BitVec 8) :
    Length.Statement (.bnotRegAbs8 rn aa) := List.mem_of_elem_eq_true rfl
theorem Length.btstImmReg (bit : BitVec 3) (rd : Reg8) :
    Length.Statement (.btstImmReg bit rd) := List.mem_of_elem_eq_true rfl
theorem Length.btstImmInd (bit : BitVec 3) (erd : RegNum) :
    Length.Statement (.btstImmInd bit erd) := List.mem_of_elem_eq_true rfl
theorem Length.btstImmAbs8 (bit : BitVec 3) (aa : BitVec 8) :
    Length.Statement (.btstImmAbs8 bit aa) := List.mem_of_elem_eq_true rfl
theorem Length.btstRegReg (rn rd : Reg8) :
    Length.Statement (.btstRegReg rn rd) := List.mem_of_elem_eq_true rfl
theorem Length.btstRegInd (rn : Reg8) (erd : RegNum) :
    Length.Statement (.btstRegInd rn erd) := List.mem_of_elem_eq_true rfl
theorem Length.btstRegAbs8 (rn : Reg8) (aa : BitVec 8) :
    Length.Statement (.btstRegAbs8 rn aa) := List.mem_of_elem_eq_true rfl
theorem Length.bandReg (bit : BitVec 3) (rd : Reg8) :
    Length.Statement (.bandReg bit rd) := List.mem_of_elem_eq_true rfl
theorem Length.bandInd (bit : BitVec 3) (erd : RegNum) :
    Length.Statement (.bandInd bit erd) := List.mem_of_elem_eq_true rfl
theorem Length.bandAbs8 (bit : BitVec 3) (aa : BitVec 8) :
    Length.Statement (.bandAbs8 bit aa) := List.mem_of_elem_eq_true rfl
theorem Length.biandReg (bit : BitVec 3) (rd : Reg8) :
    Length.Statement (.biandReg bit rd) := List.mem_of_elem_eq_true rfl
theorem Length.biandInd (bit : BitVec 3) (erd : RegNum) :
    Length.Statement (.biandInd bit erd) := List.mem_of_elem_eq_true rfl
theorem Length.biandAbs8 (bit : BitVec 3) (aa : BitVec 8) :
    Length.Statement (.biandAbs8 bit aa) := List.mem_of_elem_eq_true rfl
theorem Length.borReg (bit : BitVec 3) (rd : Reg8) :
    Length.Statement (.borReg bit rd) := List.mem_of_elem_eq_true rfl
theorem Length.borInd (bit : BitVec 3) (erd : RegNum) :
    Length.Statement (.borInd bit erd) := List.mem_of_elem_eq_true rfl
theorem Length.borAbs8 (bit : BitVec 3) (aa : BitVec 8) :
    Length.Statement (.borAbs8 bit aa) := List.mem_of_elem_eq_true rfl
theorem Length.biorReg (bit : BitVec 3) (rd : Reg8) :
    Length.Statement (.biorReg bit rd) := List.mem_of_elem_eq_true rfl
theorem Length.biorInd (bit : BitVec 3) (erd : RegNum) :
    Length.Statement (.biorInd bit erd) := List.mem_of_elem_eq_true rfl
theorem Length.biorAbs8 (bit : BitVec 3) (aa : BitVec 8) :
    Length.Statement (.biorAbs8 bit aa) := List.mem_of_elem_eq_true rfl
theorem Length.bxorReg (bit : BitVec 3) (rd : Reg8) :
    Length.Statement (.bxorReg bit rd) := List.mem_of_elem_eq_true rfl
theorem Length.bxorInd (bit : BitVec 3) (erd : RegNum) :
    Length.Statement (.bxorInd bit erd) := List.mem_of_elem_eq_true rfl
theorem Length.bxorAbs8 (bit : BitVec 3) (aa : BitVec 8) :
    Length.Statement (.bxorAbs8 bit aa) := List.mem_of_elem_eq_true rfl
theorem Length.bixorReg (bit : BitVec 3) (rd : Reg8) :
    Length.Statement (.bixorReg bit rd) := List.mem_of_elem_eq_true rfl
theorem Length.bixorInd (bit : BitVec 3) (erd : RegNum) :
    Length.Statement (.bixorInd bit erd) := List.mem_of_elem_eq_true rfl
theorem Length.bixorAbs8 (bit : BitVec 3) (aa : BitVec 8) :
    Length.Statement (.bixorAbs8 bit aa) := List.mem_of_elem_eq_true rfl
theorem Length.bldReg (bit : BitVec 3) (rd : Reg8) :
    Length.Statement (.bldReg bit rd) := List.mem_of_elem_eq_true rfl
theorem Length.bldInd (bit : BitVec 3) (erd : RegNum) :
    Length.Statement (.bldInd bit erd) := List.mem_of_elem_eq_true rfl
theorem Length.bldAbs8 (bit : BitVec 3) (aa : BitVec 8) :
    Length.Statement (.bldAbs8 bit aa) := List.mem_of_elem_eq_true rfl
theorem Length.bildReg (bit : BitVec 3) (rd : Reg8) :
    Length.Statement (.bildReg bit rd) := List.mem_of_elem_eq_true rfl
theorem Length.bildInd (bit : BitVec 3) (erd : RegNum) :
    Length.Statement (.bildInd bit erd) := List.mem_of_elem_eq_true rfl
theorem Length.bildAbs8 (bit : BitVec 3) (aa : BitVec 8) :
    Length.Statement (.bildAbs8 bit aa) := List.mem_of_elem_eq_true rfl
theorem Length.bstReg (bit : BitVec 3) (rd : Reg8) :
    Length.Statement (.bstReg bit rd) := List.mem_of_elem_eq_true rfl
theorem Length.bstInd (bit : BitVec 3) (erd : RegNum) :
    Length.Statement (.bstInd bit erd) := List.mem_of_elem_eq_true rfl
theorem Length.bstAbs8 (bit : BitVec 3) (aa : BitVec 8) :
    Length.Statement (.bstAbs8 bit aa) := List.mem_of_elem_eq_true rfl
theorem Length.bistReg (bit : BitVec 3) (rd : Reg8) :
    Length.Statement (.bistReg bit rd) := List.mem_of_elem_eq_true rfl
theorem Length.bistInd (bit : BitVec 3) (erd : RegNum) :
    Length.Statement (.bistInd bit erd) := List.mem_of_elem_eq_true rfl
theorem Length.bistAbs8 (bit : BitVec 3) (aa : BitVec 8) :
    Length.Statement (.bistAbs8 bit aa) := List.mem_of_elem_eq_true rfl
theorem Length.bra (d : BranchDisp) :
    Length.Statement (.bra d) := by
  cases d <;> exact List.mem_of_elem_eq_true rfl
theorem Length.brn (d : BranchDisp) :
    Length.Statement (.brn d) := by
  cases d <;> exact List.mem_of_elem_eq_true rfl
theorem Length.bhi (d : BranchDisp) :
    Length.Statement (.bhi d) := by
  cases d <;> exact List.mem_of_elem_eq_true rfl
theorem Length.bls (d : BranchDisp) :
    Length.Statement (.bls d) := by
  cases d <;> exact List.mem_of_elem_eq_true rfl
theorem Length.bcc (d : BranchDisp) :
    Length.Statement (.bcc d) := by
  cases d <;> exact List.mem_of_elem_eq_true rfl
theorem Length.bcs (d : BranchDisp) :
    Length.Statement (.bcs d) := by
  cases d <;> exact List.mem_of_elem_eq_true rfl
theorem Length.bne (d : BranchDisp) :
    Length.Statement (.bne d) := by
  cases d <;> exact List.mem_of_elem_eq_true rfl
theorem Length.beq (d : BranchDisp) :
    Length.Statement (.beq d) := by
  cases d <;> exact List.mem_of_elem_eq_true rfl
theorem Length.bvc (d : BranchDisp) :
    Length.Statement (.bvc d) := by
  cases d <;> exact List.mem_of_elem_eq_true rfl
theorem Length.bvs (d : BranchDisp) :
    Length.Statement (.bvs d) := by
  cases d <;> exact List.mem_of_elem_eq_true rfl
theorem Length.bpl (d : BranchDisp) :
    Length.Statement (.bpl d) := by
  cases d <;> exact List.mem_of_elem_eq_true rfl
theorem Length.bmi (d : BranchDisp) :
    Length.Statement (.bmi d) := by
  cases d <;> exact List.mem_of_elem_eq_true rfl
theorem Length.bge (d : BranchDisp) :
    Length.Statement (.bge d) := by
  cases d <;> exact List.mem_of_elem_eq_true rfl
theorem Length.blt (d : BranchDisp) :
    Length.Statement (.blt d) := by
  cases d <;> exact List.mem_of_elem_eq_true rfl
theorem Length.bgt (d : BranchDisp) :
    Length.Statement (.bgt d) := by
  cases d <;> exact List.mem_of_elem_eq_true rfl
theorem Length.ble (d : BranchDisp) :
    Length.Statement (.ble d) := by
  cases d <;> exact List.mem_of_elem_eq_true rfl
theorem Length.jmpInd (ern : RegNum) :
    Length.Statement (.jmpInd ern) := List.mem_of_elem_eq_true rfl
theorem Length.jmpAbs24 (aa : BitVec 24) :
    Length.Statement (.jmpAbs24 aa) := List.mem_of_elem_eq_true rfl
theorem Length.jmpMemInd (aa : BitVec 8) :
    Length.Statement (.jmpMemInd aa) := List.mem_of_elem_eq_true rfl
theorem Length.bsr8 (disp : BitVec 8) :
    Length.Statement (.bsr8 disp) := List.mem_of_elem_eq_true rfl
theorem Length.bsr16 (disp : BitVec 16) :
    Length.Statement (.bsr16 disp) := List.mem_of_elem_eq_true rfl
theorem Length.jsrInd (ern : RegNum) :
    Length.Statement (.jsrInd ern) := List.mem_of_elem_eq_true rfl
theorem Length.jsrAbs24 (aa : BitVec 24) :
    Length.Statement (.jsrAbs24 aa) := List.mem_of_elem_eq_true rfl
theorem Length.jsrMemInd (aa : BitVec 8) :
    Length.Statement (.jsrMemInd aa) := List.mem_of_elem_eq_true rfl
theorem Length.rts :
    Length.Statement (.rts) := List.mem_of_elem_eq_true rfl
theorem Length.trapa (vec : BitVec 2) :
    Length.Statement (.trapa vec) := List.mem_of_elem_eq_true rfl
theorem Length.rte :
    Length.Statement (.rte) := List.mem_of_elem_eq_true rfl
theorem Length.sleep :
    Length.Statement (.sleep) := List.mem_of_elem_eq_true rfl
theorem Length.ldcImm (imm : BitVec 8) :
    Length.Statement (.ldcImm imm) := List.mem_of_elem_eq_true rfl
theorem Length.ldcReg (rs : Reg8) :
    Length.Statement (.ldcReg rs) := List.mem_of_elem_eq_true rfl
theorem Length.ldcInd (ers : RegNum) :
    Length.Statement (.ldcInd ers) := List.mem_of_elem_eq_true rfl
theorem Length.ldcDisp16 (disp : BitVec 16) (ers : RegNum) :
    Length.Statement (.ldcDisp16 disp ers) := List.mem_of_elem_eq_true rfl
theorem Length.ldcDisp24 (disp : BitVec 24) (ers : RegNum) :
    Length.Statement (.ldcDisp24 disp ers) := List.mem_of_elem_eq_true rfl
theorem Length.ldcPostInc (ers : RegNum) :
    Length.Statement (.ldcPostInc ers) := List.mem_of_elem_eq_true rfl
theorem Length.ldcAbs16 (aa : BitVec 16) :
    Length.Statement (.ldcAbs16 aa) := List.mem_of_elem_eq_true rfl
theorem Length.ldcAbs24 (aa : BitVec 24) :
    Length.Statement (.ldcAbs24 aa) := List.mem_of_elem_eq_true rfl
theorem Length.stcReg (rd : Reg8) :
    Length.Statement (.stcReg rd) := List.mem_of_elem_eq_true rfl
theorem Length.stcInd (erd : RegNum) :
    Length.Statement (.stcInd erd) := List.mem_of_elem_eq_true rfl
theorem Length.stcDisp16 (disp : BitVec 16) (erd : RegNum) :
    Length.Statement (.stcDisp16 disp erd) := List.mem_of_elem_eq_true rfl
theorem Length.stcDisp24 (disp : BitVec 24) (erd : RegNum) :
    Length.Statement (.stcDisp24 disp erd) := List.mem_of_elem_eq_true rfl
theorem Length.stcPreDec (erd : RegNum) :
    Length.Statement (.stcPreDec erd) := List.mem_of_elem_eq_true rfl
theorem Length.stcAbs16 (aa : BitVec 16) :
    Length.Statement (.stcAbs16 aa) := List.mem_of_elem_eq_true rfl
theorem Length.stcAbs24 (aa : BitVec 24) :
    Length.Statement (.stcAbs24 aa) := List.mem_of_elem_eq_true rfl
theorem Length.andc (imm : BitVec 8) :
    Length.Statement (.andc imm) := List.mem_of_elem_eq_true rfl
theorem Length.orc (imm : BitVec 8) :
    Length.Statement (.orc imm) := List.mem_of_elem_eq_true rfl
theorem Length.xorc (imm : BitVec 8) :
    Length.Statement (.xorc imm) := List.mem_of_elem_eq_true rfl
theorem Length.nop :
    Length.Statement (.nop) := List.mem_of_elem_eq_true rfl
theorem Length.eepmovB :
    Length.Statement (.eepmovB) := List.mem_of_elem_eq_true rfl
theorem Length.eepmovW :
    Length.Statement (.eepmovW) := List.mem_of_elem_eq_true rfl

end Sys2Proof.Laws
end

