-- ==== Sys2Proof/Laws/Step.lean ====
section
/-! SUPPORT. What a step can do, said once: the fetch, the choice of an interrupt, its entry, the processing states. -/

namespace Sys2Proof.Machine

/-! ### Sampling the pins (R383) -/

@[simp] theorem samplePins_er (s : State) : s.samplePins.er = s.er := rfl
@[simp] theorem samplePins_pc (s : State) : s.samplePins.pc = s.pc := rfl
@[simp] theorem samplePins_ccr (s : State) : s.samplePins.ccr = s.ccr := rfl
@[simp] theorem samplePins_mem (s : State) : s.samplePins.mem = s.mem := rfl
@[simp] theorem samplePins_mcuMode (s : State) : s.samplePins.mcuMode = s.mcuMode := rfl
@[simp] theorem samplePins_product (s : State) : s.samplePins.product = s.product := rfl
@[simp] theorem samplePins_platform (s : State) : s.samplePins.platform = s.platform := rfl
@[simp] theorem samplePins_iprbLayout (s : State) : s.samplePins.iprbLayout = s.iprbLayout := rfl
@[simp] theorem samplePins_deviceAnswers (s : State) : s.samplePins.deviceAnswers = s.deviceAnswers := rfl
@[simp] theorem samplePins_deviceCalls (s : State) : s.samplePins.deviceCalls = s.deviceCalls := rfl
@[simp] theorem samplePins_resDuring (s : State) : s.samplePins.resDuring = s.resDuring := rfl
@[simp] theorem samplePins_syscr (s : State) : s.samplePins.syscr = s.syscr := rfl
@[simp] theorem samplePins_iscr (s : State) : s.samplePins.iscr = s.iscr := rfl
@[simp] theorem samplePins_ier (s : State) : s.samplePins.ier = s.ier := rfl
@[simp] theorem samplePins_isr (s : State) : s.samplePins.isr = s.sampledIsr := rfl
@[simp] theorem samplePins_isrRead (s : State) : s.samplePins.isrRead = s.isrRead &&& s.sampledIsr := rfl
@[simp] theorem samplePins_ipra (s : State) : s.samplePins.ipra = s.ipra := rfl
@[simp] theorem samplePins_iprb (s : State) : s.samplePins.iprb = s.iprb := rfl
@[simp] theorem samplePins_pstate (s : State) : s.samplePins.pstate = s.pstate := rfl
@[simp] theorem samplePins_irqInhibit (s : State) : s.samplePins.irqInhibit = s.irqInhibit := rfl
@[simp] theorem samplePins_resLow (s : State) : s.samplePins.resLow = s.resLow := rfl
@[simp] theorem samplePins_stbyLow (s : State) : s.samplePins.stbyLow = s.stbyLow := rfl
@[simp] theorem samplePins_pins (s : State) : s.samplePins.pins = s.pins := rfl
@[simp] theorem samplePins_pinsSeen (s : State) : s.samplePins.pinsSeen = s.pins := rfl
@[simp] theorem samplePins_nmiRequest (s : State) : s.samplePins.nmiRequest = (s.nmiRequest || s.nmiEdge) := rfl
@[simp] theorem samplePins_moduleRequests (s : State) : s.samplePins.moduleRequests = s.moduleRequests := rfl
@[simp] theorem samplePins_nmiDuringTransfer (s : State) :
    s.samplePins.nmiDuringTransfer = s.nmiDuringTransfer := rfl
@[simp] theorem samplePins_draws (s : State) : s.samplePins.draws = s.draws := rfl

/-- A byte with one bit set or cleared. -/
theorem withBit_getLsbD (v : Byte) (j : Fin 8) (b : Bool) (i : Nat) :
    (withBit v j.val b).getLsbD i = if i = j.val then b else v.getLsbD i := by
  have hb : (1#8 <<< j.val).getLsbD i = decide (i = j.val) := by
    simp only [BitVec.getLsbD_shiftLeft, BitVec.getLsbD_one, ← Bool.decide_and, ← decide_not, decide_eq_decide]
    simp
    omega
  unfold withBit
  by_cases h : i = j.val
  · cases b <;> simp [h]
  · cases b
    · by_cases hi : i < 8
      · simp only [Bool.false_eq_true, if_false, BitVec.getLsbD_and, BitVec.getLsbD_not, hb, h, hi, decide_true,
          decide_false, Bool.not_false, Bool.and_true]
      · simp [h, BitVec.getLsbD_of_ge v i (by omega)]
    · simp [hb, h]

/-- The flags of ISR after sampling: those of the four lines as sampled, every other bit as before (R55, R383). -/
theorem sampledIsr_getLsbD (s : State) (i : Nat) :
    s.sampledIsr.getLsbD i =
      if i = 5 then s.sampledFlag .irq5 else if i = 4 then s.sampledFlag .irq4
      else if i = 1 then s.sampledFlag .irq1 else if i = 0 then s.sampledFlag .irq0 else s.isr.getLsbD i := by
  simp only [State.sampledIsr, IrqLine.all, List.foldl, IrqLine.bit]
  exact (withBit_getLsbD _ (5 : Fin 8) _ i).trans <| if_congr Iff.rfl rfl <|
    (withBit_getLsbD _ (4 : Fin 8) _ i).trans <| if_congr Iff.rfl rfl <|
    (withBit_getLsbD _ (1 : Fin 8) _ i).trans <| if_congr Iff.rfl rfl <|
    withBit_getLsbD _ (0 : Fin 8) _ i

/-- Sampling changes no place. -/
@[simp] theorem samplePins_locate (s : State) (a : Addr) : s.samplePins.locate a = s.locate a :=
  locate_congr rfl rfl rfl rfl a

/-! ### Interrupts (R380 to R386) -/

/-- What an accepted request is: presented, not held off, not masked. -/
theorem accepted_some {s : State} {r : Source} (h : s.accepted = some r) :
    s.irqInhibit = false ∧ s.presented = some r ∧ s.passesMask r = true := by
  unfold State.accepted at h
  cases hi : s.irqInhibit with
  | true => simp [hi] at h
  | false =>
    simp only [hi, Bool.false_eq_true, if_false, Option.filter_eq_some_iff] at h
    exact ⟨rfl, h.1, h.2⟩

/-- What a presented request is: the NMI, or one of the maskable requests when there is no NMI. -/
theorem presented_some {s : State} {r : Source} (h : s.presented = some r) :
    (s.nmiRequest = true ∧ r = .nmi) ∨ (s.nmiRequest = false ∧ r ∈ s.maskableRequests) := by
  unfold State.presented at h
  cases hn : s.nmiRequest with
  | true => simp [hn] at h; exact .inl ⟨rfl, h.symm⟩
  | false =>
    simp only [hn, Bool.false_eq_true, if_false] at h
    refine .inr ⟨rfl, ?_⟩
    split at h
    · cases h
      exact List.mem_of_find?_eq_some (by assumption)
    · exact List.mem_of_mem_head? h

/-- What an acknowledge does: it clears the NMI request, or a flag of ISR, or nothing. -/
theorem acknowledge_eq (s : State) (r : Source) :
    ∃ n i j, s.acknowledge r = { s with nmiRequest := n, isr := i, isrRead := j } := by
  cases r with
  | nmi => exact ⟨false, s.isr, s.isrRead, rfl⟩
  | irq l =>
    by_cases he : s.edgeSensed l = true
    · exact ⟨s.nmiRequest, _, _, by simp only [State.acknowledge, he, if_true]; rfl⟩
    · exact ⟨s.nmiRequest, s.isr, s.isrRead, by simp [State.acknowledge, he]⟩
  | internal m => exact ⟨s.nmiRequest, s.isr, s.isrRead, rfl⟩

/-- What an interrupt entry does: the request is acknowledged, the program runs on, the exception is taken. -/
theorem enterInterrupt_ok {s t : State} {r : Source} (h : s.enterInterrupt r = .ok t) :
    ((s.acknowledge r).setPstate .program).takeException 0 r.vector s.pc = .ok t := h

/-! ### The fetch (R79) -/

/-- What a fetched instruction is: the one the words at PC decode to, and the state after reading its words. -/
theorem fetch_ok {s s1 : State} {i : Instr} (h : s.fetch = .ok (i, s1)) :
    ∃ rest, decode (State.fetchWords (maxLength / 2) (evenAddr s.pc) s).1 = .ok (i, rest) ∧
      s1 = State.afterFetch
        (((State.fetchWords (maxLength / 2) (evenAddr s.pc) s).1.length - rest.length) / 2) (evenAddr s.pc) s := by
  unfold State.fetch at h
  simp only at h
  split at h
  · rename_i j rest hd
    cases h
    exact ⟨rest, hd, rfl⟩
  · cases h
  · cases h
  · cases h

/-! ### Processing states (R400 to R407) -/

/-- What a reset of the modules does: no cell changes but module registers (R60, R404). -/
theorem resetModules_read (s : State) {ports : Bool} {k : Nat} (h : s.moduleCell ports k = false) :
    (s.resetModules ports).mem.read k = s.mem.read k :=
  Memory.read_scramble_other _ _ _ _ _ fun _ _ => h

/-- Entering the reset state changes no cell but module registers (R406). -/
theorem enterReset_read (s : State) {k : Nat} (h : s.moduleCell true k = false) :
    s.enterReset.mem.read k = s.mem.read k := resetModules_read s h

/-- What a boundary in sleep mode does. -/
theorem sleepStep_ok {s t : State} (h : s.sleepStep = .ok t) :
    (∃ r, s.accepted = some r ∧ s.enterInterrupt r = .ok t) ∨ (s.accepted = none ∧ t = s) := by
  unfold State.sleepStep at h
  split at h
  · exact .inl ⟨_, by assumption, h⟩
  · cases h; exact .inr ⟨by assumption, rfl⟩

/-- What a boundary in software standby mode does. -/
theorem standbyStep_ok {s t : State} (h : s.standbyStep = .ok t) :
    (s.wakes = true ∧ ∃ r, s.accepted = some r ∧ s.enterInterrupt r = .ok t) ∨
    (s.wakes = true ∧ s.accepted = none ∧ t = s.setPstate .program) ∨ (s.wakes = false ∧ t = s) := by
  unfold State.standbyStep at h
  split at h
  · split at h
    · exact .inl ⟨by assumption, _, by assumption, h⟩
    · cases h; exact .inr (.inl ⟨by assumption, by assumption, rfl⟩)
  · cases h; exact .inr (.inr ⟨by simp_all, rfl⟩)

/-- What leaving the reset state does: PC is the reset vector's. -/
theorem releaseReset_ok {s t : State} (h : s.releaseReset = .ok t) :
    ((s.initialiseControl.scrambleRegisters.scrambleRam.setI).holdOff.setPstate .program).vectorTo 0 = .ok t := h

/-- What an instruction of a running program does, in a state in which it can be fetched. -/
theorem runInstruction_next {s t : State} (h : s.runInstruction = .next t) :
    (∃ i s1, s.fetch = .ok (i, s1) ∧ exec i { s1 with irqInhibit := false } = .next t) ∨
    ∃ s1, s.fetch = .error (.abandoned s1) := by
  unfold State.runInstruction at h
  split at h
  · exact .inl ⟨_, _, by assumption, h⟩
  · rename_i why hf
    rcases finish_next.mp h with h | ⟨s1, h, -⟩
    · cases h
    · cases h; exact .inr ⟨s1, hf⟩

/-- What the end of a step does: RES goes low where it was to go low in the step and nothing was left to abandon. -/
theorem settle_next {o : Outcome} {t : State} (h : settle o = .next t) : ∃ u, o = .next u ∧ t = u.resFalls := by
  cases o with
  | next u => cases h; exact ⟨u, rfl, rfl⟩
  | fault f => cases h
  | refused r => cases h

/-- While RES stays high the end of a step changes nothing. -/
theorem resFalls_of {s : State} (h : s.resDuring = none) : s.resFalls = s := by
  simp [State.resFalls, h]

/-- Everything a step that answers a next state can do before its end, in the state in which the pins have been sampled:
run an instruction, enter an interrupt, abandon an entry, wait, wake, enter the reset state or hardware standby mode, or
leave the reset state. -/
theorem sampledStep_next {s t : State} (h : s.sampledStep = .next t) :
    (s.pstate = .program ∧ s.accepted = none ∧ s.runInstruction = .next t) ∨
    (∃ r, s.accepted = some r ∧ finish (s.enterInterrupt r) = .next t) ∨
    t = s ∨ t = s.setPstate .program ∨ t = s.enterReset ∨ t = s.enterHardwareStandby ∨
    (s.pstate = .reset ∧ finish s.releaseReset = .next t) := by
  unfold State.sampledStep at h
  cases hp : s.pstate with
  | program =>
    simp only [hp] at h
    split at h
    · cases h; simp
    · split at h
      · cases h; simp
      · unfold State.programStep at h
        split at h
        · exact .inr (.inl ⟨_, by assumption, h⟩)
        · exact .inl ⟨rfl, by assumption, h⟩
  | sleep =>
    simp only [hp] at h
    split at h
    · cases h; simp
    · split at h
      · cases h; simp
      · unfold State.sleepStep at h
        split at h
        · exact .inr (.inl ⟨_, by assumption, h⟩)
        · cases h; simp
  | softwareStandby =>
    simp only [hp] at h
    split at h
    · cases h; simp
    · split at h
      · cases h; simp
      · unfold State.standbyStep at h
        split at h
        · split at h
          · exact .inr (.inl ⟨_, by assumption, h⟩)
          · cases h; simp
        · cases h; simp
  | reset =>
    simp only [hp] at h
    unfold State.resetStep at h
    split at h
    · cases h; simp
    · split at h
      · cases h; simp
      · exact .inr (.inr (.inr (.inr (.inr (.inr ⟨rfl, h⟩)))))
  | hardwareStandby =>
    simp only [hp] at h
    unfold State.hardwareStandbyStep at h
    split at h
    · cases h; simp
    · cases h; simp

/-- A step that answers a next state ends one of those. -/
theorem step_next {s t : State} (h : step s = .next t) :
    ∃ u, s.samplePins.sampledStep = .next u ∧ t = u.resFalls := settle_next h

end Sys2Proof.Machine
end

