-- ==== Sys2Proof/Tests/Slice0.lean ====
section
/-! SUPPORT. Tests: the checks of WellFormed, one encoding of every row of the opcode table, one-step examples of
95_test_vectors.md, and for every obligation with hypotheses a state and operands that meet them. -/

namespace Sys2Proof.Tests

open Sys2Proof.Machine

/-! ### Helpers -/

/-- Every list of bytes decodes to its instruction, with no byte left. -/
def readsAll (l : List (List Byte × Instr)) : Bool :=
  l.all fun x => match decode x.1 with
    | .ok (i, rest) => i == x.2 && rest.isEmpty
    | .error _ => false

/-- No list of bytes decodes, and not for want of bytes. -/
def rejectsAll (l : List (List Byte)) : Bool :=
  l.all fun b => match decode b with
    | .ok _ => false
    | .error e => e != .truncated

/-- The common start of 95_test_vectors.md: mode 7, PC = H'001000, the code there, one page of platform RAM at H'0FFFC0. -/
def cpu (code : List Byte) (ccr : Byte) (er : List (RegNum × Long)) (cells : List (Nat × Byte)) : State :=
  let s : State := { State.reset with
    pc := 0x001000#24, ccr := ccr, irqInhibit := false, platform := [⟨0x0FFFC0, 16, .ram, false⟩] }
  let s := er.foldl (fun t x => t.setReg32 x.1 x.2) s
  let s := cells.foldl (fun t x => { t with mem := t.mem.write x.1 x.2 }) s
  State.placeBytes code 0x001000#24 s

/-- One step gives these CCR bits, this PC, these registers and these cells. -/
def yields (s : State) (mask ccr : Byte) (pc : Addr) (er : List (RegNum × Long)) (cells : List (Nat × Byte)) : Bool :=
  match step s with
  | .next t =>
    t.ccr &&& mask == ccr && t.pc == pc && er.all (fun x => t.reg32 x.1 == x.2) &&
      cells.all (fun x => t.mem.read x.1 == x.2)
  | .fault _ | .refused _ => false

/-- One step gives this PC and these registers; nothing is asked of what the spec leaves free. -/
def yieldsRegs (s : State) (pc : Addr) (er : List (RegNum × Long)) : Bool :=
  match step s with
  | .next t => t.pc == pc && er.all (fun x => t.reg32 x.1 == x.2)
  | .fault _ | .refused _ => false

/-- One step is a refusal. -/
def refuses (s : State) : Bool :=
  match step s with
  | .refused _ => true
  | .next _ | .fault _ => false

/-! ### WellFormed: a word has one name (R129) -/

theorem test_wellFormed_pop : (Instr.movWLoadPostInc 7 (.r 0)).wellFormed = false := by decide
theorem test_wellFormed_pop_long : (Instr.movLLoadPostInc 7 0).wellFormed = false := by decide
theorem test_wellFormed_push : (Instr.movWStorePreDec (.r 0) 7).wellFormed = false := by decide
theorem test_wellFormed_push_long : (Instr.movLStorePreDec 0 7).wellFormed = false := by decide
theorem test_wellFormed_accepts :
    ((Instr.movWLoadPostInc 6 (.r 0)).wellFormed && (Instr.movLStorePreDec 0 6).wellFormed &&
      (Instr.popW (.e 7)).wellFormed && (Instr.movBStorePreDec (.l 1) 7).wellFormed) = true := by decide

/-! ### Decoding: the bytes are written out from the encodings of the spec, every field with a value of its own -/

/-- Encodings of R151 to R169. -/
theorem test_decode_data_transfer_1 : readsAll [
    ([0x0C, 0xBD], .movBRegReg (.l 3) (.l 5)),
    ([0x0D, 0xBC], .movWRegReg (.e 3) (.e 4)),
    ([0x0F, 0xD6], .movLRegReg 5 6),
    ([0xF3, 0xC4], .movBImm 0xC4 (.h 3)),
    ([0x79, 0x0E, 0x2B, 0x4D], .movWImm 0x2B4D (.e 6)),
    ([0x7A, 0x01, 0x12, 0x34, 0x56, 0x78], .movLImm 0x12345678 1),
    ([0x68, 0x46], .movBLoadInd 4 (.h 6)),
    ([0x6E, 0x1D, 0xFE, 0xDC], .movBLoadDisp16 0xFEDC 1 (.l 5)),
    ([0x78, 0x60, 0x6A, 0x21, 0x00, 0x0F, 0xEF, 0x12], .movBLoadDisp24 0xFEF12 6 (.h 1)),
    ([0x6C, 0x5A], .movBLoadPostInc 5 (.l 2)),
    ([0x2E, 0x5B], .movBLoadAbs8 0x5B (.l 6)),
    ([0x6A, 0x0E, 0xFE, 0xDC], .movBLoadAbs16 0xFEDC (.l 6)),
    ([0x6A, 0x2D, 0x00, 0x12, 0x34, 0x56], .movBLoadAbs24 0x123456 (.l 5)),
    ([0x69, 0x12], .movWLoadInd 1 (.r 2)),
    ([0x6F, 0x25, 0x12, 0x34], .movWLoadDisp16 0x1234 2 (.r 5)),
    ([0x78, 0x10, 0x6B, 0x2B, 0x00, 0x0F, 0xEF, 0x12], .movWLoadDisp24 0xFEF12 1 (.e 3)),
    ([0x6D, 0x3B], .movWLoadPostInc 3 (.e 3)),
    ([0x6B, 0x0D, 0xFE, 0xDC], .movWLoadAbs16 0xFEDC (.e 5))] = true := by decide

/-- Encodings of R151 to R169. -/
theorem test_decode_data_transfer_2 : readsAll [
    ([0x6B, 0x26, 0x00, 0x12, 0x34, 0x56], .movWLoadAbs24 0x123456 (.r 6)),
    ([0x01, 0x00, 0x69, 0x41], .movLLoadInd 4 1),
    ([0x01, 0x00, 0x6F, 0x46, 0x12, 0x34], .movLLoadDisp16 0x1234 4 6),
    ([0x01, 0x00, 0x78, 0x40, 0x6B, 0x25, 0x00, 0xFE, 0xDC, 0xBA], .movLLoadDisp24 0xFEDCBA 4 5),
    ([0x01, 0x00, 0x6D, 0x16], .movLLoadPostInc 1 6),
    ([0x01, 0x00, 0x6B, 0x03, 0x87, 0x65], .movLLoadAbs16 0x8765 3),
    ([0x01, 0x00, 0x6B, 0x25, 0x00, 0x12, 0x34, 0x56], .movLLoadAbs24 0x123456 5),
    ([0x68, 0x96], .movBStoreInd (.h 6) 1),
    ([0x6E, 0xC2, 0x12, 0x34], .movBStoreDisp16 (.h 2) 0x1234 4),
    ([0x78, 0x40, 0x6A, 0xA2, 0x00, 0xFE, 0xDC, 0xBA], .movBStoreDisp24 (.h 2) 0xFEDCBA 4),
    ([0x6C, 0x92], .movBStorePreDec (.h 2) 1),
    ([0x31, 0xC4], .movBStoreAbs8 (.h 1) 0xC4),
    ([0x6A, 0x85, 0x12, 0x34], .movBStoreAbs16 (.h 5) 0x1234),
    ([0x6A, 0xAB, 0x00, 0xFE, 0xDC, 0xBA], .movBStoreAbs24 (.l 3) 0xFEDCBA),
    ([0x69, 0xCA], .movWStoreInd (.e 2) 4),
    ([0x6F, 0xE2, 0xFE, 0xDC], .movWStoreDisp16 (.r 2) 0xFEDC 6),
    ([0x78, 0x10, 0x6B, 0xA6, 0x00, 0xFE, 0xDC, 0xBA], .movWStoreDisp24 (.r 6) 0xFEDCBA 1),
    ([0x6D, 0xB6], .movWStorePreDec (.r 6) 3)] = true := by decide

/-- Encodings of R151 to R169. -/
theorem test_decode_data_transfer_3 : readsAll [
    ([0x6B, 0x81, 0x2B, 0x4D], .movWStoreAbs16 (.r 1) 0x2B4D),
    ([0x6B, 0xA2, 0x00, 0x12, 0x34, 0x56], .movWStoreAbs24 (.r 2) 0x123456),
    ([0x01, 0x00, 0x69, 0xE2], .movLStoreInd 2 6),
    ([0x01, 0x00, 0x6F, 0xA1, 0x12, 0x34], .movLStoreDisp16 1 0x1234 2),
    ([0x01, 0x00, 0x78, 0xA0, 0x6B, 0xA4, 0x00, 0xFE, 0xDC, 0xBA], .movLStoreDisp24 4 0xFEDCBA 2),
    ([0x01, 0x00, 0x6D, 0xD6], .movLStorePreDec 6 5),
    ([0x01, 0x00, 0x6B, 0x82, 0x2B, 0x4D], .movLStoreAbs16 2 0x2B4D),
    ([0x01, 0x00, 0x6B, 0xA5, 0x00, 0x12, 0x34, 0x56], .movLStoreAbs24 5 0x123456),
    ([0x6A, 0x4A, 0xFE, 0xDC], .movfpe 0xFEDC (.l 2)),
    ([0x6A, 0xCA, 0x12, 0x34], .movtpe (.l 2) 0x1234),
    ([0x6D, 0x7A], .popW (.e 2)),
    ([0x01, 0x00, 0x6D, 0x74], .popL 4),
    ([0x6D, 0xF5], .pushW (.r 5)),
    ([0x01, 0x00, 0x6D, 0xF1], .pushL 1)] = true := by decide

/-- Encodings of R181 to R203. -/
theorem test_decode_arithmetic_1 : readsAll [
    ([0x8E, 0xA6], .addBImm 0xA6 (.l 6)),
    ([0x08, 0x61], .addBReg (.h 6) (.h 1)),
    ([0x79, 0x13, 0xFE, 0xDC], .addWImm 0xFEDC (.r 3)),
    ([0x09, 0xAE], .addWReg (.e 2) (.e 6)),
    ([0x7A, 0x11, 0x12, 0x34, 0x56, 0x78], .addLImm 0x12345678 1),
    ([0x0A, 0xA3], .addLReg 2 3),
    ([0x18, 0xB6], .subBReg (.l 3) (.h 6)),
    ([0x79, 0x3E, 0x12, 0x34], .subWImm 0x1234 (.e 6)),
    ([0x19, 0x96], .subWReg (.e 1) (.r 6)),
    ([0x7A, 0x31, 0xFE, 0xDC, 0xBA, 0x98], .subLImm 0xFEDCBA98 1),
    ([0x1A, 0x92], .subLReg 1 2),
    ([0xAE, 0xC4], .cmpBImm 0xC4 (.l 6)),
    ([0x1C, 0x51], .cmpBReg (.h 5) (.h 1)),
    ([0x79, 0x29, 0x87, 0x65], .cmpWImm 0x8765 (.e 1)),
    ([0x1D, 0xEB], .cmpWReg (.e 6) (.e 3)),
    ([0x7A, 0x25, 0x12, 0x34, 0x56, 0x78], .cmpLImm 0x12345678 5),
    ([0x1F, 0xC5], .cmpLReg 4 5),
    ([0x17, 0x83], .negB (.h 3))] = true := by decide

/-- Encodings of R181 to R203. -/
theorem test_decode_arithmetic_2 : readsAll [
    ([0x17, 0x9A], .negW (.e 2)),
    ([0x17, 0xB2], .negL 2),
    ([0x96, 0xC4], .addxImm 0xC4 (.h 6)),
    ([0x0E, 0x5E], .addxReg (.h 5) (.l 6)),
    ([0xB5, 0xC4], .subxImm 0xC4 (.h 5)),
    ([0x1E, 0x3D], .subxReg (.h 3) (.l 5)),
    ([0x0A, 0x05], .incB (.h 5)),
    ([0x0B, 0x5A], .incW .one (.e 2)),
    ([0x0B, 0xDB], .incW .two (.e 3)),
    ([0x0B, 0x75], .incL .one 5),
    ([0x0B, 0xF1], .incL .two 1),
    ([0x1A, 0x0A], .decB (.l 2)),
    ([0x1B, 0x51], .decW .one (.r 1)),
    ([0x1B, 0xD2], .decW .two (.r 2)),
    ([0x1B, 0x71], .decL .one 1),
    ([0x1B, 0xF1], .decL .two 1),
    ([0x0B, 0x05], .adds .one 5),
    ([0x0B, 0x83], .adds .two 3)] = true := by decide

/-- Encodings of R181 to R203. -/
theorem test_decode_arithmetic_3 : readsAll [
    ([0x0B, 0x92], .adds .four 2),
    ([0x1B, 0x06], .subs .one 6),
    ([0x1B, 0x86], .subs .two 6),
    ([0x1B, 0x94], .subs .four 4),
    ([0x50, 0x6A], .mulxuB (.h 6) (.e 2)),
    ([0x52, 0xE4], .mulxuW (.e 6) 4),
    ([0x01, 0xC0, 0x50, 0x6D], .mulxsB (.h 6) (.e 5)),
    ([0x01, 0xC0, 0x52, 0x36], .mulxsW (.r 3) 6),
    ([0x0F, 0x02], .daa (.h 2)),
    ([0x1F, 0x03], .das (.h 3)),
    ([0x51, 0x5B], .divxuB (.h 5) (.e 3)),
    ([0x53, 0xD6], .divxuW (.e 5) 6),
    ([0x01, 0xD0, 0x51, 0xEF], .divxsB (.l 6) (.e 7)),
    ([0x01, 0xD0, 0x53, 0x23], .divxsW (.r 2) 3),
    ([0x17, 0xD5], .extsW (.r 5)),
    ([0x17, 0xF2], .extsL 2),
    ([0x17, 0x51], .extuW (.r 1)),
    ([0x17, 0x71], .extuL 1)] = true := by decide

/-- Encodings of R231 to R234. -/
theorem test_decode_logic_1 : readsAll [
    ([0xEA, 0xA6], .andBImm 0xA6 (.l 2)),
    ([0x16, 0xB5], .andBReg (.l 3) (.h 5)),
    ([0x79, 0x61, 0x12, 0x34], .andWImm 0x1234 (.r 1)),
    ([0x66, 0x36], .andWReg (.r 3) (.r 6)),
    ([0x7A, 0x65, 0xFE, 0xDC, 0xBA, 0x98], .andLImm 0xFEDCBA98 5),
    ([0x01, 0xF0, 0x66, 0x52], .andLReg 5 2),
    ([0xC9, 0x12], .orBImm 0x12 (.l 1)),
    ([0x14, 0x3B], .orBReg (.h 3) (.l 3)),
    ([0x79, 0x4D, 0x87, 0x65], .orWImm 0x8765 (.e 5)),
    ([0x64, 0xE3], .orWReg (.e 6) (.r 3)),
    ([0x7A, 0x41, 0x12, 0x34, 0x56, 0x78], .orLImm 0x12345678 1),
    ([0x01, 0xF0, 0x64, 0x43], .orLReg 4 3),
    ([0xD1, 0xA6], .xorBImm 0xA6 (.h 1)),
    ([0x15, 0x1E], .xorBReg (.h 1) (.l 6)),
    ([0x79, 0x5B, 0x12, 0x34], .xorWImm 0x1234 (.e 3)),
    ([0x65, 0x26], .xorWReg (.r 2) (.r 6)),
    ([0x7A, 0x52, 0xFE, 0xDC, 0xBA, 0x98], .xorLImm 0xFEDCBA98 2),
    ([0x01, 0xF0, 0x65, 0x12], .xorLReg 1 2)] = true := by decide

/-- Encodings of R231 to R234. -/
theorem test_decode_logic_2 : readsAll [
    ([0x17, 0x0B], .notB (.l 3)),
    ([0x17, 0x1D], .notW (.e 5)),
    ([0x17, 0x33], .notL 3)] = true := by decide

/-- Encodings of R251 to R258. -/
theorem test_decode_shift_1 : readsAll [
    ([0x10, 0x81], .shalB (.h 1)),
    ([0x10, 0x93], .shalW (.r 3)),
    ([0x10, 0xB3], .shalL 3),
    ([0x11, 0x89], .sharB (.l 1)),
    ([0x11, 0x92], .sharW (.r 2)),
    ([0x11, 0xB6], .sharL 6),
    ([0x10, 0x0B], .shllB (.l 3)),
    ([0x10, 0x12], .shllW (.r 2)),
    ([0x10, 0x34], .shllL 4),
    ([0x11, 0x01], .shlrB (.h 1)),
    ([0x11, 0x1B], .shlrW (.e 3)),
    ([0x11, 0x35], .shlrL 5),
    ([0x12, 0x81], .rotlB (.h 1)),
    ([0x12, 0x9E], .rotlW (.e 6)),
    ([0x12, 0xB6], .rotlL 6),
    ([0x13, 0x8A], .rotrB (.l 2)),
    ([0x13, 0x9A], .rotrW (.e 2)),
    ([0x13, 0xB5], .rotrL 5)] = true := by decide

/-- Encodings of R251 to R258. -/
theorem test_decode_shift_2 : readsAll [
    ([0x12, 0x01], .rotxlB (.h 1)),
    ([0x12, 0x1E], .rotxlW (.e 6)),
    ([0x12, 0x31], .rotxlL 1),
    ([0x13, 0x02], .rotxrB (.h 2)),
    ([0x13, 0x12], .rotxrW (.r 2)),
    ([0x13, 0x36], .rotxrL 6)] = true := by decide

/-- Encodings of R272 to R285. -/
theorem test_decode_bit_manipulation_1 : readsAll [
    ([0x70, 0x06], .bsetImmReg 0 (.h 6)),
    ([0x7D, 0x40, 0x70, 0x70], .bsetImmInd 7 4),
    ([0x7F, 0xA6, 0x70, 0x50], .bsetImmAbs8 5 0xA6),
    ([0x60, 0xAE], .bsetRegReg (.l 2) (.l 6)),
    ([0x7D, 0x40, 0x60, 0xB0], .bsetRegInd (.l 3) 4),
    ([0x7F, 0xE8, 0x60, 0xB0], .bsetRegAbs8 (.l 3) 0xE8),
    ([0x72, 0x0D], .bclrImmReg 0 (.l 5)),
    ([0x7D, 0x50, 0x72, 0x60], .bclrImmInd 6 5),
    ([0x7F, 0xA6, 0x72, 0x00], .bclrImmAbs8 0 0xA6),
    ([0x62, 0xE2], .bclrRegReg (.l 6) (.h 2)),
    ([0x7D, 0x10, 0x62, 0xB0], .bclrRegInd (.l 3) 1),
    ([0x7F, 0x12, 0x62, 0x50], .bclrRegAbs8 (.h 5) 0x12),
    ([0x71, 0x3E], .bnotImmReg 3 (.l 6)),
    ([0x7D, 0x40, 0x71, 0x50], .bnotImmInd 5 4),
    ([0x7F, 0x12, 0x71, 0x20], .bnotImmAbs8 2 0x12),
    ([0x61, 0x96], .bnotRegReg (.l 1) (.h 6)),
    ([0x7D, 0x60, 0x61, 0x30], .bnotRegInd (.h 3) 6),
    ([0x7F, 0xC4, 0x61, 0xE0], .bnotRegAbs8 (.l 6) 0xC4)] = true := by decide

/-- Encodings of R272 to R285. -/
theorem test_decode_bit_manipulation_2 : readsAll [
    ([0x73, 0x43], .btstImmReg 4 (.h 3)),
    ([0x7C, 0x30, 0x73, 0x60], .btstImmInd 6 3),
    ([0x7E, 0x5B, 0x73, 0x50], .btstImmAbs8 5 0x5B),
    ([0x63, 0xB5], .btstRegReg (.l 3) (.h 5)),
    ([0x7C, 0x40, 0x63, 0x90], .btstRegInd (.l 1) 4),
    ([0x7E, 0xC4, 0x63, 0x60], .btstRegAbs8 (.h 6) 0xC4),
    ([0x76, 0x5A], .bandReg 5 (.l 2)),
    ([0x7C, 0x20, 0x76, 0x60], .bandInd 6 2),
    ([0x7E, 0xC4, 0x76, 0x70], .bandAbs8 7 0xC4),
    ([0x76, 0xB5], .biandReg 3 (.h 5)),
    ([0x7C, 0x30, 0x76, 0xC0], .biandInd 4 3),
    ([0x7E, 0xC4, 0x76, 0x90], .biandAbs8 1 0xC4),
    ([0x74, 0x1B], .borReg 1 (.l 3)),
    ([0x7C, 0x10, 0x74, 0x20], .borInd 2 1),
    ([0x7E, 0x12, 0x74, 0x50], .borAbs8 5 0x12),
    ([0x74, 0xF6], .biorReg 7 (.h 6)),
    ([0x7C, 0x20, 0x74, 0xE0], .biorInd 6 2),
    ([0x7E, 0x5B, 0x74, 0x80], .biorAbs8 0 0x5B)] = true := by decide

/-- Encodings of R272 to R285. -/
theorem test_decode_bit_manipulation_3 : readsAll [
    ([0x75, 0x36], .bxorReg 3 (.h 6)),
    ([0x7C, 0x20, 0x75, 0x70], .bxorInd 7 2),
    ([0x7E, 0x5B, 0x75, 0x60], .bxorAbs8 6 0x5B),
    ([0x75, 0xBD], .bixorReg 3 (.l 5)),
    ([0x7C, 0x60, 0x75, 0xB0], .bixorInd 3 6),
    ([0x7E, 0xE8, 0x75, 0xA0], .bixorAbs8 2 0xE8),
    ([0x77, 0x39], .bldReg 3 (.l 1)),
    ([0x7C, 0x10, 0x77, 0x00], .bldInd 0 1),
    ([0x7E, 0xE8, 0x77, 0x20], .bldAbs8 2 0xE8),
    ([0x77, 0x86], .bildReg 0 (.h 6)),
    ([0x7C, 0x30, 0x77, 0xC0], .bildInd 4 3),
    ([0x7E, 0xE8, 0x77, 0xA0], .bildAbs8 2 0xE8),
    ([0x67, 0x03], .bstReg 0 (.h 3)),
    ([0x7D, 0x40, 0x67, 0x30], .bstInd 3 4),
    ([0x7F, 0x12, 0x67, 0x10], .bstAbs8 1 0x12),
    ([0x67, 0xE7], .bistReg 6 (.h 7)),
    ([0x7D, 0x20, 0x67, 0x90], .bistInd 1 2),
    ([0x7F, 0x12, 0x67, 0xE0], .bistAbs8 6 0x12)] = true := by decide

/-- Encodings of R301 to R311. -/
theorem test_decode_branch_1 : readsAll [
    ([0x40, 0x12], .bra (.d8 0x12)),
    ([0x58, 0x00, 0x2B, 0x4D], .bra (.d16 0x2B4D)),
    ([0x41, 0x12], .brn (.d8 0x12)),
    ([0x58, 0x10, 0x87, 0x65], .brn (.d16 0x8765)),
    ([0x42, 0x12], .bhi (.d8 0x12)),
    ([0x58, 0x20, 0xFE, 0xDC], .bhi (.d16 0xFEDC)),
    ([0x43, 0xC4], .bls (.d8 0xC4)),
    ([0x58, 0x30, 0x2B, 0x4D], .bls (.d16 0x2B4D)),
    ([0x44, 0xA6], .bcc (.d8 0xA6)),
    ([0x58, 0x40, 0xFE, 0xDC], .bcc (.d16 0xFEDC)),
    ([0x45, 0x12], .bcs (.d8 0x12)),
    ([0x58, 0x50, 0x2B, 0x4D], .bcs (.d16 0x2B4D)),
    ([0x46, 0xE8], .bne (.d8 0xE8)),
    ([0x58, 0x60, 0x12, 0x34], .bne (.d16 0x1234)),
    ([0x47, 0xC4], .beq (.d8 0xC4)),
    ([0x58, 0x70, 0xFE, 0xDC], .beq (.d16 0xFEDC)),
    ([0x48, 0xA6], .bvc (.d8 0xA6)),
    ([0x58, 0x80, 0x87, 0x65], .bvc (.d16 0x8765))] = true := by decide

/-- Encodings of R301 to R311. -/
theorem test_decode_branch_2 : readsAll [
    ([0x49, 0xE8], .bvs (.d8 0xE8)),
    ([0x58, 0x90, 0xFE, 0xDC], .bvs (.d16 0xFEDC)),
    ([0x4A, 0x5B], .bpl (.d8 0x5B)),
    ([0x58, 0xA0, 0xFE, 0xDC], .bpl (.d16 0xFEDC)),
    ([0x4B, 0x12], .bmi (.d8 0x12)),
    ([0x58, 0xB0, 0x2B, 0x4D], .bmi (.d16 0x2B4D)),
    ([0x4C, 0x5B], .bge (.d8 0x5B)),
    ([0x58, 0xC0, 0xFE, 0xDC], .bge (.d16 0xFEDC)),
    ([0x4D, 0x5B], .blt (.d8 0x5B)),
    ([0x58, 0xD0, 0x2B, 0x4D], .blt (.d16 0x2B4D)),
    ([0x4E, 0xC4], .bgt (.d8 0xC4)),
    ([0x58, 0xE0, 0x12, 0x34], .bgt (.d16 0x1234)),
    ([0x4F, 0x5B], .ble (.d8 0x5B)),
    ([0x58, 0xF0, 0x87, 0x65], .ble (.d16 0x8765)),
    ([0x59, 0x40], .jmpInd 4),
    ([0x5A, 0xFE, 0xDC, 0xBA], .jmpAbs24 0xFEDCBA),
    ([0x5B, 0xC4], .jmpMemInd 0xC4),
    ([0x55, 0x12], .bsr8 0x12)] = true := by decide

/-- Encodings of R301 to R311. -/
theorem test_decode_branch_3 : readsAll [
    ([0x5C, 0x00, 0x12, 0x34], .bsr16 0x1234),
    ([0x5D, 0x20], .jsrInd 2),
    ([0x5E, 0x12, 0x34, 0x56], .jsrAbs24 0x123456),
    ([0x5F, 0x5B], .jsrMemInd 0x5B),
    ([0x54, 0x70], .rts)] = true := by decide

/-- Encodings of R320 to R331. -/
theorem test_decode_system_control_1 : readsAll [
    ([0x57, 0x30], .trapa 3),
    ([0x56, 0x70], .rte),
    ([0x01, 0x80], .sleep),
    ([0x07, 0x12], .ldcImm 0x12),
    ([0x03, 0x06], .ldcReg (.h 6)),
    ([0x01, 0x40, 0x69, 0x50], .ldcInd 5),
    ([0x01, 0x40, 0x6F, 0x30, 0x87, 0x65], .ldcDisp16 0x8765 3),
    ([0x01, 0x40, 0x78, 0x10, 0x6B, 0x20, 0x00, 0x0F, 0xEF, 0x12], .ldcDisp24 0xFEF12 1),
    ([0x01, 0x40, 0x6D, 0x30], .ldcPostInc 3),
    ([0x01, 0x40, 0x6B, 0x00, 0x12, 0x34], .ldcAbs16 0x1234),
    ([0x01, 0x40, 0x6B, 0x20, 0x00, 0x12, 0x34, 0x56], .ldcAbs24 0x123456),
    ([0x02, 0x0B], .stcReg (.l 3)),
    ([0x01, 0x40, 0x69, 0xB0], .stcInd 3),
    ([0x01, 0x40, 0x6F, 0xB0, 0x2B, 0x4D], .stcDisp16 0x2B4D 3),
    ([0x01, 0x40, 0x78, 0x10, 0x6B, 0xA0, 0x00, 0xFE, 0xDC, 0xBA], .stcDisp24 0xFEDCBA 1),
    ([0x01, 0x40, 0x6D, 0xA0], .stcPreDec 2),
    ([0x01, 0x40, 0x6B, 0x80, 0x12, 0x34], .stcAbs16 0x1234),
    ([0x01, 0x40, 0x6B, 0xA0, 0x00, 0xFE, 0xDC, 0xBA], .stcAbs24 0xFEDCBA)] = true := by decide

/-- Encodings of R320 to R331. -/
theorem test_decode_system_control_2 : readsAll [
    ([0x06, 0x12], .andc 0x12),
    ([0x04, 0xC4], .orc 0xC4),
    ([0x05, 0xE8], .xorc 0xE8),
    ([0x00, 0x00], .nop)] = true := by decide

/-- Encodings of R350, R351. -/
theorem test_decode_block_transfer : readsAll [
    ([0x7B, 0x5C, 0x59, 0x8F], .eepmovB),
    ([0x7B, 0xD4, 0x59, 0x8F], .eepmovW)] = true := by decide

/-- 95_test_vectors.md table T10: words no row owns (R125). -/
theorem test_decode_unowned : rejectsAll [
    [0x00, 0x01], [0x01, 0xC0, 0x51, 0x10], [0x01, 0xF0, 0x67, 0x10], [0x7B, 0x5C, 0x59, 0x8E]] = true := by decide

/-! ### One step -/

/-- 95_test_vectors.md table T1: MOV.B @ER1, R0H; MOV.W @ER1, R0 (odd address); MOV.L @ER1, ER0 (address = 2 mod 4);
MOV.B R0L, @ER1; MOV.W R0, @ER1 (odd address); MOV.L ER0, @ER1. -/
theorem test_mov :
    (yields (cpu [0x68, 0x10] 0x80 [(0, 0x0), (1, 0xFEF11)] [(0xFEF10, 0x12), (0xFEF11, 0x84)])
        0xFF 0x88 0x001002 [(0, 0x8400), (1, 0xFEF11)] [] &&
      yields (cpu [0x69, 0x10] 0x80 [(0, 0x0), (1, 0xFEF11)] [(0xFEF10, 0x12), (0xFEF11, 0x84), (0xFEF12, 0x56), (0xFEF13, 0x78)])
        0xFF 0x80 0x001002 [(0, 0x1284), (1, 0xFEF11)] [] &&
      yields (cpu [0x01, 0x00, 0x69, 0x10] 0x80 [(0, 0x0), (1, 0xFEF12)] [(0xFEF10, 0x12), (0xFEF11, 0x84), (0xFEF12, 0x56), (0xFEF13, 0x78), (0xFEF14, 0x9A), (0xFEF15, 0xBC)])
        0xFF 0x80 0x001004 [(0, 0x56789ABC), (1, 0xFEF12)] [] &&
      yields (cpu [0x68, 0x98] 0x80 [(0, 0xA5), (1, 0xFEF10)] [])
        0xFF 0x88 0x001002 [(0, 0xA5), (1, 0xFEF10)] [(0xFEF10, 0xA5)] &&
      yields (cpu [0x69, 0x90] 0x80 [(0, 0x1234), (1, 0xFEF11)] [])
        0xFF 0x80 0x001002 [(0, 0x1234), (1, 0xFEF11)] [(0xFEF10, 0x12), (0xFEF11, 0x34)] &&
      yields (cpu [0x01, 0x00, 0x69, 0x90] 0x80 [(0, 0x12345678), (1, 0xFEF10)] [])
        0xFF 0x80 0x001004 [(0, 0x12345678), (1, 0xFEF10)] [(0xFEF10, 0x12), (0xFEF11, 0x34), (0xFEF12, 0x56), (0xFEF13, 0x78)]) = true := by decide

/-- 95_test_vectors.md table T1: PUSH.W R0; PUSH.L ER0; POP.W R0; POP.L ER0. -/
theorem test_push_pop :
    (yields (cpu [0x6D, 0xF0] 0x80 [(0, 0xBEEF), (7, 0xFFF00)] [])
        0xFF 0x88 0x001002 [(0, 0xBEEF), (7, 0xFFEFE)] [(0xFFEFE, 0xBE), (0xFFEFF, 0xEF)] &&
      yields (cpu [0x01, 0x00, 0x6D, 0xF0] 0x80 [(0, 0xCAFEBEEF), (7, 0xFFF00)] [])
        0xFF 0x88 0x001004 [(0, 0xCAFEBEEF), (7, 0xFFEFC)] [(0xFFEFC, 0xCA), (0xFFEFD, 0xFE), (0xFFEFE, 0xBE), (0xFFEFF, 0xEF)] &&
      yields (cpu [0x6D, 0x70] 0x80 [(0, 0x0), (7, 0xFFEFE)] [(0xFFEFE, 0xBE), (0xFFEFF, 0xEF)])
        0xFF 0x88 0x001002 [(0, 0xBEEF), (7, 0xFFF00)] [] &&
      yields (cpu [0x01, 0x00, 0x6D, 0x70] 0x80 [(0, 0x0), (7, 0xFFEFC)] [(0xFFEFC, 0x00), (0xFFEFD, 0x00), (0xFFEFE, 0x00), (0xFFEFF, 0x00)])
        0xFF 0x84 0x001004 [(0, 0x0), (7, 0xFFF00)] []) = true := by decide

/-- 95_test_vectors.md table T1: MOVFPE @H'1000:16, R0L; MOVTPE R0L, @H'1000:16. -/
theorem test_movfpe_movtpe :
    (refuses (cpu [0x6A, 0x48, 0x10, 0x00] 0x80 [] []) &&
      refuses (cpu [0x6A, 0xC8, 0x10, 0x00] 0x80 [] [])) = true := by decide

/-- 95_test_vectors.md table T2: ADD.B R1L, R0L; ADD.W R1, R0; ADD.L ER1, ER0. -/
theorem test_add :
    (yields (cpu [0x08, 0x98] 0x80 [(0, 0x7F), (1, 0x1)] [])
        0xFF 0xAA 0x001002 [(0, 0x80), (1, 0x1)] [] &&
      yields (cpu [0x09, 0x10] 0x80 [(0, 0xFFF), (1, 0x1)] [])
        0xFF 0xA0 0x001002 [(0, 0x1000), (1, 0x1)] [] &&
      yields (cpu [0x0A, 0x90] 0x80 [(0, 0xFFFFFFF), (1, 0x1)] [])
        0xFF 0xA0 0x001002 [(0, 0x10000000), (1, 0x1)] []) = true := by decide

/-- 95_test_vectors.md table T2: SUB.B R1L, R0L; SUB.W #H'0001, R0; SUB.L ER0, ER0. -/
theorem test_sub :
    (yields (cpu [0x18, 0x98] 0x80 [(0, 0x0), (1, 0x1)] [])
        0xFF 0xA9 0x001002 [(0, 0xFF), (1, 0x1)] [] &&
      yields (cpu [0x79, 0x30, 0x00, 0x01] 0x80 [(0, 0x1000)] [])
        0xFF 0xA0 0x001004 [(0, 0xFFF)] [] &&
      yields (cpu [0x1A, 0x80] 0x8F [(0, 0x12345678)] [])
        0xFF 0x84 0x001002 [(0, 0x0)] []) = true := by decide

/-- 95_test_vectors.md table T2: CMP.B #H'10, R0L; CMP.W R1, R0; CMP.L ER1, ER0. -/
theorem test_cmp :
    (yields (cpu [0xA8, 0x10] 0x80 [(0, 0x10)] [])
        0xFF 0x84 0x001002 [(0, 0x10)] [] &&
      yields (cpu [0x1D, 0x10] 0x80 [(0, 0x8000), (1, 0x7FFF)] [])
        0xFF 0xA2 0x001002 [(0, 0x8000), (1, 0x7FFF)] [] &&
      yields (cpu [0x1F, 0x90] 0x80 [(0, 0xFFFFFFFF), (1, 0xFFFFFFFF)] [])
        0xFF 0x84 0x001002 [(0, 0xFFFFFFFF), (1, 0xFFFFFFFF)] []) = true := by decide

/-- 95_test_vectors.md table T2: NEG.B R0L; NEG.W R0; NEG.L ER0. -/
theorem test_neg :
    (yields (cpu [0x17, 0x88] 0x80 [(0, 0x80)] [])
        0xFF 0x8B 0x001002 [(0, 0x80)] [] &&
      yields (cpu [0x17, 0x90] 0x80 [(0, 0x1)] [])
        0xFF 0xA9 0x001002 [(0, 0xFFFF)] [] &&
      yields (cpu [0x17, 0xB0] 0x80 [(0, 0x80000000)] [])
        0xFF 0x8B 0x001002 [(0, 0x80000000)] []) = true := by decide

/-- 95_test_vectors.md table T2: ADDX R1L, R0L; SUBX R1L, R0L; SUBX #H'00, R0L. -/
theorem test_addx_subx :
    (yields (cpu [0x0E, 0x98] 0x85 [(0, 0xFF), (1, 0x0)] [])
        0xFF 0xA5 0x001002 [(0, 0x0), (1, 0x0)] [] &&
      yields (cpu [0x0E, 0x98] 0x81 [(0, 0xFF), (1, 0x0)] [])
        0xFF 0xA1 0x001002 [(0, 0x0), (1, 0x0)] [] &&
      yields (cpu [0x1E, 0x98] 0x85 [(0, 0x0), (1, 0x0)] [])
        0xFF 0xA9 0x001002 [(0, 0xFF), (1, 0x0)] [] &&
      yields (cpu [0xB8, 0x00] 0x85 [(0, 0x1)] [])
        0xFF 0x84 0x001002 [(0, 0x0)] []) = true := by decide

/-- 95_test_vectors.md table T2: INC.B R0L; INC.W #2, R0; INC.L #2, ER0; DEC.B R0L; DEC.W #1, R0; DEC.L #1, ER0. -/
theorem test_inc_dec :
    (yields (cpu [0x0A, 0x08] 0x81 [(0, 0x7F)] [])
        0xFF 0x8B 0x001002 [(0, 0x80)] [] &&
      yields (cpu [0x0B, 0xD0] 0x80 [(0, 0x7FFE)] [])
        0xFF 0x8A 0x001002 [(0, 0x8000)] [] &&
      yields (cpu [0x0B, 0xF0] 0x80 [(0, 0x7FFFFFFF)] [])
        0xFF 0x8A 0x001002 [(0, 0x80000001)] [] &&
      yields (cpu [0x1A, 0x08] 0x80 [(0, 0x80)] [])
        0xFF 0x82 0x001002 [(0, 0x7F)] [] &&
      yields (cpu [0x1B, 0x50] 0x80 [(0, 0x1)] [])
        0xFF 0x84 0x001002 [(0, 0x0)] [] &&
      yields (cpu [0x1B, 0x70] 0x80 [(0, 0x0)] [])
        0xFF 0x88 0x001002 [(0, 0xFFFFFFFF)] []) = true := by decide

/-- 95_test_vectors.md table T2: ADDS #4, ER7; SUBS #1, ER0. -/
theorem test_adds_subs :
    (yields (cpu [0x0B, 0x97] 0x8F [(7, 0xFFEFC)] [])
        0xFF 0x8F 0x001002 [(7, 0xFFF00)] [] &&
      yields (cpu [0x1B, 0x00] 0x80 [(0, 0x0)] [])
        0xFF 0x80 0x001002 [(0, 0xFFFFFFFF)] []) = true := by decide

/-- 95_test_vectors.md table T2: MULXU.B R1L, R0; MULXU.W R1, ER0; MULXS.B R1L, R0; MULXS.W R1, ER0. -/
theorem test_mulx :
    (yields (cpu [0x50, 0x90] 0x8F [(0, 0xAAAA12FF), (1, 0xFF)] [])
        0xFF 0x8F 0x001002 [(0, 0xAAAAFE01), (1, 0xFF)] [] &&
      yields (cpu [0x52, 0x10] 0x80 [(0, 0x1234FFFF), (1, 0xFFFF)] [])
        0xFF 0x80 0x001002 [(0, 0xFFFE0001), (1, 0xFFFF)] [] &&
      yields (cpu [0x01, 0xC0, 0x50, 0x90] 0x80 [(0, 0xFF), (1, 0x2)] [])
        0xFF 0x88 0x001004 [(0, 0xFFFE), (1, 0x2)] [] &&
      yields (cpu [0x01, 0xC0, 0x52, 0x10] 0x80 [(0, 0x8000), (1, 0x7FFF)] [])
        0xFF 0x88 0x001004 [(0, 0xC0008000), (1, 0x7FFF)] []) = true := by decide

/-- 95_test_vectors.md table T2: DIVXU.B R1L, R0; DIVXU.W R1, ER0; DIVXS.B R1L, R0; DIVXS.W R1, ER0. -/
theorem test_divx :
    (yields (cpu [0x51, 0x90] 0x80 [(0, 0x64), (1, 0x7)] [])
        0xFF 0x80 0x001002 [(0, 0x20E), (1, 0x7)] [] &&
      yields (cpu [0x53, 0x10] 0x80 [(0, 0x186A0), (1, 0x3)] [])
        0xFF 0x80 0x001002 [(0, 0x18235), (1, 0x3)] [] &&
      yields (cpu [0x01, 0xD0, 0x51, 0x90] 0x80 [(0, 0xFF9C), (1, 0x7)] [])
        0xFF 0x88 0x001004 [(0, 0xFEF2), (1, 0x7)] [] &&
      yields (cpu [0x01, 0xD0, 0x53, 0x10] 0x80 [(0, 0xFFFF8ACF), (1, 0x3)] [])
        0xFF 0x88 0x001004 [(0, 0xFFFFD8F0), (1, 0x3)] []) = true := by decide

/-- 95_test_vectors.md table T2: EXTS.W R0; EXTS.L ER0; EXTU.W R0; EXTU.L ER0. -/
theorem test_exts_extu :
    (yields (cpu [0x17, 0xD0] 0x83 [(0, 0x1280)] [])
        0xFF 0x89 0x001002 [(0, 0xFF80)] [] &&
      yields (cpu [0x17, 0xF0] 0x80 [(0, 0xFFFF7FFF)] [])
        0xFF 0x80 0x001002 [(0, 0x7FFF)] [] &&
      yields (cpu [0x17, 0x50] 0x8A [(0, 0xFF80)] [])
        0xFF 0x80 0x001002 [(0, 0x80)] [] &&
      yields (cpu [0x17, 0x70] 0x88 [(0, 0xFFFF0000)] [])
        0xFF 0x84 0x001002 [(0, 0x0)] []) = true := by decide

/-- 95_test_vectors.md table T2: DAA R0L; DAS R0L. -/
theorem test_daa_das :
    (yieldsRegs (cpu [0x0F, 0x08] 0xA0 [(0, 0x41)] []) 0x001002 [(0, 0x47)] &&
      yieldsRegs (cpu [0x1F, 0x08] 0xA0 [(0, 0x1F)] []) 0x001002 [(0, 0x19)]) = true := by decide

/-- 95_test_vectors.md table T3: AND.B #H'0F, R0L; AND.W #H'00FF, R0; AND.L #H'FF000000, ER0; OR.B #H'80, R0L; OR.W
#H'0001, R0; OR.L #H'80000000, ER0; XOR.B #H'FF, R0L; XOR.W #H'FFFF, R0; XOR.L #H'FFFFFFFF, ER0; NOT.B R0L; NOT.W R0;
NOT.L ER0. -/
theorem test_and_or_xor_not :
    (yields (cpu [0xE8, 0x0F] 0x8B [(0, 0xF0)] [])
        0xFF 0x85 0x001002 [(0, 0x0)] [] &&
      yields (cpu [0x79, 0x60, 0x00, 0xFF] 0x80 [(0, 0xABCD1234)] [])
        0xFF 0x80 0x001004 [(0, 0xABCD0034)] [] &&
      yields (cpu [0x7A, 0x60, 0xFF, 0x00, 0x00, 0x00] 0x80 [(0, 0x12345678)] [])
        0xFF 0x80 0x001006 [(0, 0x12000000)] [] &&
      yields (cpu [0xC8, 0x80] 0x82 [(0, 0x1)] [])
        0xFF 0x88 0x001002 [(0, 0x81)] [] &&
      yields (cpu [0x79, 0x40, 0x00, 0x01] 0x80 [(0, 0x8000)] [])
        0xFF 0x88 0x001004 [(0, 0x8001)] [] &&
      yields (cpu [0x7A, 0x40, 0x80, 0x00, 0x00, 0x00] 0x80 [(0, 0x0)] [])
        0xFF 0x88 0x001006 [(0, 0x80000000)] [] &&
      yields (cpu [0xD8, 0xFF] 0x80 [(0, 0x55)] [])
        0xFF 0x88 0x001002 [(0, 0xAA)] [] &&
      yields (cpu [0x79, 0x50, 0xFF, 0xFF] 0x80 [(0, 0xFF)] [])
        0xFF 0x88 0x001004 [(0, 0xFF00)] [] &&
      yields (cpu [0x7A, 0x50, 0xFF, 0xFF, 0xFF, 0xFF] 0x80 [(0, 0x7FFFFFFF)] [])
        0xFF 0x88 0x001006 [(0, 0x80000000)] [] &&
      yields (cpu [0x17, 0x08] 0x8A [(0, 0xFF)] [])
        0xFF 0x84 0x001002 [(0, 0x0)] [] &&
      yields (cpu [0x17, 0x10] 0x80 [(0, 0x7FFF)] [])
        0xFF 0x88 0x001002 [(0, 0x8000)] [] &&
      yields (cpu [0x17, 0x30] 0x83 [(0, 0x0)] [])
        0xFF 0x89 0x001002 [(0, 0xFFFFFFFF)] []) = true := by decide

/-- 95_test_vectors.md table T4: SHAL.B R0L; SHAL.W R0; SHAL.L ER0; SHAR.B R0L; SHAR.W R0; SHAR.L ER0. -/
theorem test_shal_shar :
    (yields (cpu [0x10, 0x88] 0x80 [(0, 0x40)] [])
        0xFF 0x8A 0x001002 [(0, 0x80)] [] &&
      yields (cpu [0x10, 0x90] 0x80 [(0, 0x4000)] [])
        0xFF 0x8A 0x001002 [(0, 0x8000)] [] &&
      yields (cpu [0x10, 0xB0] 0x80 [(0, 0xC0000001)] [])
        0xFF 0x89 0x001002 [(0, 0x80000002)] [] &&
      yields (cpu [0x11, 0x88] 0x82 [(0, 0x81)] [])
        0xFF 0x89 0x001002 [(0, 0xC0)] [] &&
      yields (cpu [0x11, 0x90] 0x80 [(0, 0x1)] [])
        0xFF 0x85 0x001002 [(0, 0x0)] [] &&
      yields (cpu [0x11, 0xB0] 0x80 [(0, 0x80000000)] [])
        0xFF 0x88 0x001002 [(0, 0xC0000000)] []) = true := by decide

/-- 95_test_vectors.md table T4: SHLL.B R0L; SHLL.W R0; SHLL.L ER0; SHLR.B R0L; SHLR.W R0; SHLR.L ER0. -/
theorem test_shll_shlr :
    (yields (cpu [0x10, 0x08] 0x82 [(0, 0x40)] [])
        0xFF 0x88 0x001002 [(0, 0x80)] [] &&
      yields (cpu [0x10, 0x10] 0x80 [(0, 0x8000)] [])
        0xFF 0x85 0x001002 [(0, 0x0)] [] &&
      yields (cpu [0x10, 0x30] 0x80 [(0, 0x7FFFFFFF)] [])
        0xFF 0x88 0x001002 [(0, 0xFFFFFFFE)] [] &&
      yields (cpu [0x11, 0x08] 0x88 [(0, 0x81)] [])
        0xFF 0x81 0x001002 [(0, 0x40)] [] &&
      yields (cpu [0x11, 0x10] 0x80 [(0, 0x1)] [])
        0xFF 0x85 0x001002 [(0, 0x0)] [] &&
      yields (cpu [0x11, 0x30] 0x81 [(0, 0xFFFFFFFE)] [])
        0xFF 0x80 0x001002 [(0, 0x7FFFFFFF)] []) = true := by decide

/-- 95_test_vectors.md table T4: ROTL.B R0L; ROTL.W R0; ROTL.L ER0; ROTR.B R0L; ROTR.W R0; ROTR.L ER0. -/
theorem test_rotl_rotr :
    (yields (cpu [0x12, 0x88] 0x80 [(0, 0x81)] [])
        0xFF 0x81 0x001002 [(0, 0x3)] [] &&
      yields (cpu [0x12, 0x90] 0x81 [(0, 0x4000)] [])
        0xFF 0x88 0x001002 [(0, 0x8000)] [] &&
      yields (cpu [0x12, 0xB0] 0x80 [(0, 0x80000000)] [])
        0xFF 0x81 0x001002 [(0, 0x1)] [] &&
      yields (cpu [0x13, 0x88] 0x80 [(0, 0x1)] [])
        0xFF 0x89 0x001002 [(0, 0x80)] [] &&
      yields (cpu [0x13, 0x90] 0x81 [(0, 0x2)] [])
        0xFF 0x80 0x001002 [(0, 0x1)] [] &&
      yields (cpu [0x13, 0xB0] 0x80 [(0, 0x1)] [])
        0xFF 0x89 0x001002 [(0, 0x80000000)] []) = true := by decide

/-- 95_test_vectors.md table T4: ROTXL.B R0L; ROTXL.W R0; ROTXL.L ER0; ROTXR.B R0L; ROTXR.W R0; ROTXR.L ER0. -/
theorem test_rotxl_rotxr :
    (yields (cpu [0x12, 0x08] 0x80 [(0, 0x80)] [])
        0xFF 0x85 0x001002 [(0, 0x0)] [] &&
      yields (cpu [0x12, 0x10] 0x81 [(0, 0x8000)] [])
        0xFF 0x81 0x001002 [(0, 0x1)] [] &&
      yields (cpu [0x12, 0x30] 0x81 [(0, 0x7FFFFFFF)] [])
        0xFF 0x88 0x001002 [(0, 0xFFFFFFFF)] [] &&
      yields (cpu [0x13, 0x08] 0x80 [(0, 0x1)] [])
        0xFF 0x85 0x001002 [(0, 0x0)] [] &&
      yields (cpu [0x13, 0x10] 0x81 [(0, 0x1)] [])
        0xFF 0x89 0x001002 [(0, 0x8000)] [] &&
      yields (cpu [0x13, 0x30] 0x81 [(0, 0x2)] [])
        0xFF 0x88 0x001002 [(0, 0x80000001)] []) = true := by decide

/-- 95_test_vectors.md table T5: BSET #7, R0L; BCLR #0, R0L; BNOT #1, R0H; BST #5, R0L; BIST #5, R0L. -/
theorem test_bset_bclr_bnot_bst_bist :
    (yields (cpu [0x70, 0x78] 0x80 [(0, 0x0)] [])
        0xFF 0x80 0x001002 [(0, 0x80)] [] &&
      yields (cpu [0x72, 0x08] 0x8F [(0, 0xFF)] [])
        0xFF 0x8F 0x001002 [(0, 0xFE)] [] &&
      yields (cpu [0x71, 0x10] 0x80 [(0, 0x200)] [])
        0xFF 0x80 0x001002 [(0, 0x0)] [] &&
      yields (cpu [0x67, 0x58] 0x81 [(0, 0x0)] [])
        0xFF 0x81 0x001002 [(0, 0x20)] [] &&
      yields (cpu [0x67, 0xD8] 0x80 [(0, 0x0)] [])
        0xFF 0x80 0x001002 [(0, 0x20)] []) = true := by decide

/-- 95_test_vectors.md table T5: BTST #7, R0L; BAND #0, R0L; BIAND #0, R0L; BOR #2, R0L; BIOR #2, R0L. -/
theorem test_btst_band_bor :
    (yields (cpu [0x73, 0x78] 0x84 [(0, 0x80)] [])
        0xFF 0x80 0x001002 [(0, 0x80)] [] &&
      yields (cpu [0x76, 0x08] 0x81 [(0, 0x1)] [])
        0xFF 0x81 0x001002 [(0, 0x1)] [] &&
      yields (cpu [0x76, 0x88] 0x81 [(0, 0x0)] [])
        0xFF 0x81 0x001002 [(0, 0x0)] [] &&
      yields (cpu [0x74, 0x28] 0x80 [(0, 0x4)] [])
        0xFF 0x81 0x001002 [(0, 0x4)] [] &&
      yields (cpu [0x74, 0xA8] 0x80 [(0, 0xFB)] [])
        0xFF 0x81 0x001002 [(0, 0xFB)] []) = true := by decide

/-- 95_test_vectors.md table T5: BLD #3, R0L; BILD #3, R0L; BXOR #7, R0L; BIXOR #7, R0L. -/
theorem test_bxor_bld :
    (yields (cpu [0x77, 0x38] 0x80 [(0, 0x8)] [])
        0xFF 0x81 0x001002 [(0, 0x8)] [] &&
      yields (cpu [0x77, 0xB8] 0x81 [(0, 0x8)] [])
        0xFF 0x80 0x001002 [(0, 0x8)] [] &&
      yields (cpu [0x75, 0x78] 0x81 [(0, 0x80)] [])
        0xFF 0x80 0x001002 [(0, 0x80)] [] &&
      yields (cpu [0x75, 0xF8] 0x81 [(0, 0x80)] [])
        0xFF 0x81 0x001002 [(0, 0x80)] []) = true := by decide

/-- 95_test_vectors.md table T6: BRA +H'10; BRA -2 (branch to self); BRN +H'10; BEQ +4; BNE d:16 +H'0100; BHI +4
(C=0,Z=0); BLS +4 (Z=1); BCC +4 (C=1); BCS +4 (C=1). -/
theorem test_bcc_unsigned :
    (yields (cpu [0x40, 0x10] 0x80 [] [])
        0xFF 0x80 0x001012 [] [] &&
      yields (cpu [0x40, 0xFE] 0x80 [] [])
        0xFF 0x80 0x001000 [] [] &&
      yields (cpu [0x41, 0x10] 0x8F [] [])
        0xFF 0x8F 0x001002 [] [] &&
      yields (cpu [0x47, 0x04] 0x84 [] [])
        0xFF 0x84 0x001006 [] [] &&
      yields (cpu [0x58, 0x60, 0x01, 0x00] 0x80 [] [])
        0xFF 0x80 0x001104 [] [] &&
      yields (cpu [0x42, 0x04] 0x80 [] [])
        0xFF 0x80 0x001006 [] [] &&
      yields (cpu [0x43, 0x04] 0x84 [] [])
        0xFF 0x84 0x001006 [] [] &&
      yields (cpu [0x44, 0x04] 0x81 [] [])
        0xFF 0x81 0x001002 [] [] &&
      yields (cpu [0x45, 0x04] 0x81 [] [])
        0xFF 0x81 0x001006 [] []) = true := by decide

/-- 95_test_vectors.md table T6: BVC +4 (V=1); BVS +4 (V=1); BPL +4 (N=1); BMI +4 (N=1); BGE +4 (N=1,V=1); BLT +4
(N=1,V=0); BGT +4 (Z=0,N=V); BLE +4 (N=0,V=1). -/
theorem test_bcc_signed :
    (yields (cpu [0x48, 0x04] 0x82 [] [])
        0xFF 0x82 0x001002 [] [] &&
      yields (cpu [0x49, 0x04] 0x82 [] [])
        0xFF 0x82 0x001006 [] [] &&
      yields (cpu [0x4A, 0x04] 0x88 [] [])
        0xFF 0x88 0x001002 [] [] &&
      yields (cpu [0x4B, 0x04] 0x88 [] [])
        0xFF 0x88 0x001006 [] [] &&
      yields (cpu [0x4C, 0x04] 0x8A [] [])
        0xFF 0x8A 0x001006 [] [] &&
      yields (cpu [0x4D, 0x04] 0x88 [] [])
        0xFF 0x88 0x001006 [] [] &&
      yields (cpu [0x4E, 0x04] 0x80 [] [])
        0xFF 0x80 0x001006 [] [] &&
      yields (cpu [0x4F, 0x04] 0x82 [] [])
        0xFF 0x82 0x001006 [] []) = true := by decide

/-- 95_test_vectors.md table T6: JMP @ER2; BSR +H'20; JSR @ER2; RTS. -/
theorem test_jmp_bsr_jsr_rts :
    (yields (cpu [0x59, 0x20] 0x80 [(2, 0xAB002000)] [])
        0xFF 0x80 0x002000 [(2, 0xAB002000)] [] &&
      yields (cpu [0x55, 0x20] 0x80 [(7, 0xFFF00)] [])
        0xFF 0x80 0x001022 [(7, 0xFFEFC)] [] &&
      yields (cpu [0x5D, 0x20] 0x80 [(2, 0x2000), (7, 0xFFF00)] [])
        0xFF 0x80 0x002000 [(2, 0x2000), (7, 0xFFEFC)] [] &&
      yields (cpu [0x54, 0x70] 0x80 [(7, 0xFFEFC)] [(0xFFEFC, 0x55), (0xFFEFD, 0x00), (0xFFEFE, 0x10), (0xFFEFF, 0x02)])
        0xFF 0x80 0x001002 [(7, 0xFFF00)] []) = true := by decide

/-- 95_test_vectors.md table T7: TRAPA #0. -/
theorem test_trapa :
    (yields (cpu [0x57, 0x00] 0x05 [(7, 0xFFF00)] [(0x20, 0x00), (0x21, 0x00), (0x22, 0x30), (0x23, 0x00)])
        0xFF 0x85 0x003000 [(7, 0xFFEFC)] [(0xFFEFC, 0x05), (0xFFEFD, 0x00), (0xFFEFE, 0x10), (0xFFEFF, 0x02)]) = true := by decide

/-- 95_test_vectors.md table T7: RTE. -/
theorem test_rte :
    (yields (cpu [0x56, 0x70] 0x80 [(7, 0xFFEFC)] [(0xFFEFC, 0x05), (0xFFEFD, 0x00), (0xFFEFE, 0x10), (0xFFEFF, 0x02)])
        0xFF 0x05 0x001002 [(7, 0xFFF00)] []) = true := by decide

/-- 95_test_vectors.md table T7: SLEEP. -/
theorem test_sleep :
    (yields (cpu [0x01, 0x80] 0x80 [] [])
        0xFF 0x80 0x001002 [] []) = true := by decide

/-- 95_test_vectors.md table T7: LDC #H'00, CCR; STC CCR, R0L. -/
theorem test_ldc_stc :
    (yields (cpu [0x07, 0x00] 0xFF [] [])
        0xFF 0x00 0x001002 [] [] &&
      yields (cpu [0x02, 0x08] 0xA5 [(0, 0x0)] [])
        0xFF 0xA5 0x001002 [(0, 0xA5)] []) = true := by decide

/-- 95_test_vectors.md table T7: ANDC #H'7F, CCR; ORC #H'80, CCR; XORC #H'FF, CCR. -/
theorem test_andc_orc_xorc :
    (yields (cpu [0x06, 0x7F] 0xFF [] [])
        0xFF 0x7F 0x001002 [] [] &&
      yields (cpu [0x04, 0x80] 0x00 [] [])
        0xFF 0x80 0x001002 [] [] &&
      yields (cpu [0x05, 0xFF] 0xA5 [] [])
        0xFF 0x5A 0x001002 [] []) = true := by decide

/-- 95_test_vectors.md table T7: NOP. -/
theorem test_nop :
    (yields (cpu [0x00, 0x00] 0xFF [] [])
        0xFF 0xFF 0x001002 [] []) = true := by decide

/-- 95_test_vectors.md table T8: EEPMOV.B; EEPMOV.B (R4L = 0); EEPMOV.W. -/
theorem test_eepmov :
    (yields (cpu [0x7B, 0x5C, 0x59, 0x8F] 0x8F [(4, 0xAAAAAA03), (5, 0xFEF10), (6, 0xFEF20)] [(0xFEF10, 0x01), (0xFEF11, 0x02), (0xFEF12, 0x03), (0xFEF13, 0x04)])
        0xFF 0x8F 0x001004 [(4, 0xAAAAAA00), (5, 0xFEF13), (6, 0xFEF23)] [(0xFEF20, 0x01), (0xFEF21, 0x02), (0xFEF22, 0x03)] &&
      yields (cpu [0x7B, 0x5C, 0x59, 0x8F] 0x80 [(4, 0xAAAAAA00), (5, 0xFEF10), (6, 0xFEF20)] [(0xFEF10, 0x01), (0xFEF11, 0x02), (0xFEF12, 0x03), (0xFEF13, 0x04)])
        0xFF 0x80 0x001004 [(4, 0xAAAAAA00), (5, 0xFEF10), (6, 0xFEF20)] [] &&
      yields (cpu [0x7B, 0xD4, 0x59, 0x8F] 0x80 [(4, 0xBBBB0004), (5, 0xFEF10), (6, 0xFEF20)] [(0xFEF10, 0x01), (0xFEF11, 0x02), (0xFEF12, 0x03), (0xFEF13, 0x04)])
        0xFF 0x80 0x001004 [(4, 0xBBBB0000), (5, 0xFEF14), (6, 0xFEF24)] [(0xFEF20, 0x01), (0xFEF21, 0x02), (0xFEF22, 0x03), (0xFEF23, 0x04)]) = true := by decide

/-! ### Interrupts, traps, sleep: 95_test_vectors.md table T9, and the worked examples X1 and X3 -/

/-- The vectors of table T9. -/
def vectors : List (Nat × Byte) :=
  [(0x1E, 0x30), (0x22, 0x40), (0x26, 0x41), (0x2A, 0x42), (0x2C, 0xFF), (0x2E, 0x43), (0x2F, 0x01), (0x32, 0x20),
    (0x36, 0x21), (0x42, 0x22), (0x46, 0x23), (0x62, 0x24)]

/-- The common start of table T9. -/
def irqCpu (code : List Byte) (ccr syscr ipra : Byte) (pins : Pins) : State :=
  { cpu code ccr [(7, 0x000FFF00)] vectors with syscr := syscr, ipra := ipra, ier := 0x33#8, pins := pins }

/-- IRQ0 low. -/
def irq0Low : Pins := { Pins.high with irq0 := false }

/-- Row 1: accepted. Row 2: masked by I. Row 3: NMI comes first. -/
theorem test_interrupt_I :
    (yields (irqCpu [0, 0] 0x00 0x0B 0x00 irq0Low) 0xFF 0x80 0x002000 [(7, 0x000FFEFC)]
        [(0x0FFEFC, 0x00), (0x0FFEFD, 0x00), (0x0FFEFE, 0x10), (0x0FFEFF, 0x00)] &&
      yields (irqCpu [0, 0] 0x80 0x0B 0x00 irq0Low) 0xFF 0x80 0x001002 [(7, 0x000FFF00)] [] &&
      yields (irqCpu [0, 0] 0x80 0x0B 0x00 { irq0Low with nmi := false }) 0xFF 0x80 0x003000 [(7, 0x000FFEFC)]
        [(0x0FFEFC, 0x80), (0x0FFEFE, 0x10)]) = true := by decide

/-- Rows 8 and 9: with UE = 0 priority level 1 passes I = 1, and UI = 1 masks it. -/
theorem test_interrupt_UI :
    (yields (irqCpu [0, 0] 0x80 0x03 0x80 irq0Low) 0xFF 0xC0 0x002000 [(7, 0x000FFEFC)] [(0x0FFEFC, 0x80)] &&
      yields (irqCpu [0, 0] 0xC0 0x03 0x80 irq0Low) 0xFF 0xC0 0x001002 [(7, 0x000FFF00)] []) = true := by decide

/-- Rows 13, 14 and 16: the choice among requests. -/
theorem test_interrupt_choice :
    (yields (irqCpu [0, 0] 0x00 0x0B 0x00 { irq0Low with irq1 := false }) 0xFF 0x80 0x002000 [] [] &&
      yields (irqCpu [0, 0] 0x00 0x0B 0x40 { irq0Low with irq1 := false }) 0xFF 0x80 0x002100 [] [] &&
      yields (irqCpu [0, 0] 0x00 0x0B 0x10 ⟨true, true, false, false, false⟩) 0xFF 0x80 0x002200 [] []) = true := by
  decide

/-- Row 20: the hold-off lasts one instruction. -/
theorem test_interrupt_holdOff :
    yields { irqCpu [0, 0] 0x00 0x0B 0x00 { Pins.high with nmi := false } with irqInhibit := true } 0xFF 0x00 0x001002
      [(7, 0x000FFF00)] [] = true := by decide

/-- Rows 25 and 26: TRAPA with UE = 0, and a vector with a first byte and an odd address. -/
theorem test_trapa_vectors :
    (yields (irqCpu [0x57, 0x20] 0x05 0x03 0x00 Pins.high) 0xFF 0xC5 0x004200 [(7, 0x000FFEFC)]
        [(0x0FFEFC, 0x05), (0x0FFEFD, 0x00), (0x0FFEFE, 0x10), (0x0FFEFF, 0x02)] &&
      yields (irqCpu [0x57, 0x30] 0x80 0x0B 0x00 Pins.high) 0xFF 0x80 0x004300 [(7, 0x000FFEFC)]
        [(0x0FFEFC, 0x80)]) = true := by decide

/-- Rows 27, 28 and 32: waking from sleep, sleeping on, and waking from software standby without an entry. -/
theorem test_sleep_wakes :
    (yields { irqCpu [0, 0] 0x00 0x0B 0x00 irq0Low with pstate := .sleep } 0xFF 0x80 0x002000 [(7, 0x000FFEFC)] [] &&
      yields { irqCpu [0, 0] 0x80 0x0B 0x00 irq0Low with pstate := .sleep } 0xFF 0x80 0x001000 [(7, 0x000FFF00)] [] &&
      yields { irqCpu [0, 0] 0x80 0x8B 0x00 irq0Low with pstate := .softwareStandby } 0xFF 0x80 0x001000
        [(7, 0x000FFF00)] []) = true := by decide

/-- X1: BCLR of a register that reads H'FF sets the other bits of the latch (R286). -/
theorem test_bclr_writeOnly :
    yields { cpu [0x7F, 0xD1, 0x72, 0x00] 0x80 [] [(0x0FFFD1, 0x3F)] with platform := [⟨0x0FFFD1, 1, .writeOnly, false⟩] }
      0xFF 0x80 0x001004 [] [(0x0FFFD1, 0xFE)] = true := by decide

/-- X3: TRAPA with an odd stack pointer saves one byte lower than ER7 says (R392). -/
theorem test_trapa_oddStack :
    yields (cpu [0x57, 0x00] 0x80 [(7, 0x000FFEFF)] vectors) 0xFF 0x80 0x004000 [(7, 0x000FFEFB)]
      [(0x0FFEFA, 0x80), (0x0FFEFB, 0x00), (0x0FFEFC, 0x10), (0x0FFEFD, 0x02)] = true := by decide

/-- What a step gives, looked at by a check. -/
def stepGives (s : State) (f : State → Bool) : Bool :=
  match step s with
  | .next t => f t
  | .fault _ | .refused _ => false

/-- A load from the hole above a smaller product's ROM in mode 5 stops; on the largest product it reads ROM (93 U6). -/
theorem test_romHole :
    (match step { cpu [0x6A, 0x28, 0x00, 0x03, 0xFF, 0xFF] 0x80 [] [] with mcuMode := .mode5, product := .h83020 } with
      | .fault .unmapped => true
      | .next _ | .fault .reservedArea | .refused _ => false) = true ∧
    stepGives { cpu [0x6A, 0x28, 0x00, 0x03, 0xFF, 0xFF] 0x80 [] [(0x03FFFF, 0x5A)] with mcuMode := .mode5 }
      (fun t => t.reg8 (.l 0) == 0x5A) = true := by decide

/-- MOV.W from a device with a 16-bit bus is one call; MOV.L to one with an 8-bit bus is four (R98, R99). -/
theorem test_deviceCalls :
    stepGives { cpu [0x6B, 0x00, 0xFF, 0xC0] 0x80 [] [] with
        platform := [⟨0x0FFFC0, 4, .device true, false⟩], deviceAnswers := [0x1234#16] }
      (fun t => t.reg16 (.r 0) == 0x1234 && t.deviceAnswers == [] &&
        t.deviceCalls == [⟨0x0FFFC0, 2, false, 0x1234⟩]) = true ∧
    stepGives { cpu [0x01, 0x00, 0x6B, 0x80, 0xFF, 0xC0] 0x80 [(0, 0x11223344)] [] with
        platform := [⟨0x0FFFC0, 4, .device false, false⟩] }
      (fun t => t.deviceCalls.map (·.value) == [0x44, 0x33, 0x22, 0x11]) = true := by decide

/-- RES falling after the first bus cycle of a MOV.L to on-chip RAM: the upper word stays written, the lower is not, and the
machine is in the reset state (R99, R406). A MOV.W there is that one bus cycle: it completes. -/
theorem test_resetDuringStore :
    stepGives { cpu [0x01, 0x00, 0x6B, 0x80, 0xFE, 0x10] 0x00 [(0, 0x11223344)] [] with resDuring := some 1, platform := [] }
      (fun t => t.mem.read 0x0FFE10 == 0x11 && t.mem.read 0x0FFE11 == 0x22 && t.mem.read 0x0FFE12 == 0 &&
        t.mem.read 0x0FFE13 == 0 && t.pstate == .reset && t.resLow && t.flag .I) = true ∧
    stepGives { cpu [0x6B, 0x80, 0xFE, 0x10] 0x00 [(0, 0x1122)] [] with resDuring := some 1 }
      (fun t => t.mem.read 0x0FFE10 == 0x11 && t.mem.read 0x0FFE11 == 0x22 && t.pstate == .program && t.resLow) =
        true := by decide

/-- Over the 8-bit external bus a MOV.W is two bus cycles: RES falling after the first leaves the upper byte (R98, R99,
R406). -/
theorem test_resetDuringExternalStore :
    stepGives { cpu [0x6B, 0x80, 0x70, 0x00] 0x00 [(0, 0x1122)] [] with
        mcuMode := .mode1, resDuring := some 1, platform := [] }
      (fun t => t.mem.read 0x7000 == 0x11 && t.mem.read 0x7001 == 0 && t.pstate == .reset) = true := by decide

/-- Which cells a reset of the modules frees: a module register of the platform, that of an I/O port only by a reset or in
hardware standby mode (R404), none of the seven, no device, nothing outside the window (R92). -/
theorem test_moduleCells :
    (let s : State := { State.reset with
        platform := [⟨0x0FFFC0, 2, .ram, false⟩, ⟨0x0FFFC2, 1, .writeOnly, true⟩, ⟨0x0FFFC3, 1, .device false, false⟩,
          ⟨0x0FFF10, 12, .ram, false⟩, ⟨0x0FFFF2, 1, .ram, false⟩] }
     [0x0FFFC0, 0x0FFFC1, 0x0FFFC2, 0x0FFFC3, 0x0FFFC4, 0x0FFF1B, 0x0FFFF2].map (s.moduleCell false) =
        [true, true, false, false, false, false, false] ∧
      [0x0FFFC1, 0x0FFFC2, 0x0FFFC3].map (s.moduleCell true) = [true, true, false]) := by decide

/-- RES falling during an instruction that has no write left: it completes and RES is low (log 38). -/
theorem test_resetAfterInstruction :
    stepGives { cpu [0xF8, 0x12] 0x80 [] [] with resDuring := some 0 }
      (fun t => t.reg8 (.l 0) == 0x12 && t.pc == 0x001002 && t.resLow && t.pstate == .program) = true := by decide

/-- A request of the A/D converter passes I = 1 and UI = 0 by whichever bit of IPRB the layout names (R52). -/
theorem test_iprbLayout :
    stepGives { irqCpu [0, 0] 0x80 0x03 0x00 Pins.high with iprb := 0x02#8, moduleRequests := [.adi] }
      (fun t => t.reg32 7 == 0x000FFEFC) = true ∧
    stepGives { irqCpu [0, 0] 0x80 0x03 0x00 Pins.high with
        iprb := 0x02#8, moduleRequests := [.adi], iprbLayout := ⟨7, 6, 3, 2, 0⟩ }
      (fun t => t.reg32 7 == 0x000FFF00) = true := by decide

/-- SLEEP with SSBY set resets ISCR, ISR and IPRB and keeps SYSCR, IPRA and IER (R404, R407, 92 D14). -/
theorem test_standby_registers :
    stepGives { irqCpu [0x01, 0x80] 0x80 0x8B 0xFF Pins.high with iscr := 0x33#8, isr := 0x33#8, iprb := 0xCE#8 }
      (fun t => t.pstate == .softwareStandby && t.syscr == 0x8B && t.ipra == 0xFF && t.ier == 0x33 && t.iscr == 0 &&
        t.isr == 0 && t.iprb == 0) = true := by decide

/-- One step is refused as a store into the instruction stream. -/
def refusesStore (s : State) : Bool :=
  match step s with
  | .refused r => r == .storeIntoInstructionStream
  | .next _ | .fault _ => false

/-- A store to ROM, and one to a write-only latch, in the instruction stream is refused (R104). -/
theorem test_streamStore_otherPlaces :
    (refusesStore (cpu [0x6A, 0x88, 0x10, 0x07] 0x80 [] []) &&
      refusesStore { cpu [] 0x80 [(1, 0x00001005)] [(0x1000, 0x68), (0x1001, 0x98)] with
        mcuMode := .mode1, platform := [⟨0x1005, 1, .writeOnly, false⟩] }) = true := by decide

/-! ### For every obligation with hypotheses, a state and operands that meet them -/

/-- `HoldsLong`, as a check. -/
def holdsLong? (s : State) (a : Addr) (v : Long) : Bool :=
  (List.range 4).all fun j => (s.locate (a + BitVec.ofNat 24 j)).isMemory &&
    match s.peekByte (a + BitVec.ofNat 24 j) with
    | .ok b => b == v.extractLsb' (24 - 8 * j) 8
    | .error _ => false

theorem holdsLong_of {s : State} {a : Addr} {v : Long} (h : holdsLong? s a v = true) : HoldsLong s a v := by
  intro j hj
  have := List.all_eq_true.mp h j (List.mem_range.mpr hj)
  simp only [Bool.and_eq_true] at this
  refine ⟨this.1, ?_⟩
  cases hp : s.peekByte (a + BitVec.ofNat 24 j) with
  | ok b => simp only [hp, beq_iff_eq] at this; rw [this.2]
  | error e => simp [hp] at this

/-- `RamAt`, as a check. -/
def ramAt? (s : State) (nb : Nat) (a : Addr) : Bool :=
  (List.range nb).all fun j => (s.locate (a + BitVec.ofNat 24 j)).isRam

theorem ramAt_of {s : State} {nb : Nat} {a : Addr} (h : ramAt? s nb a = true) : RamAt s nb a :=
  fun j hj => List.all_eq_true.mp h j (List.mem_range.mpr hj)

/-- Whether a place leads somewhere. -/
def leads? : Place → Bool
  | .stop _ => false
  | .ram _ | .rom _ | .writeOnly _ | .disabledRam | .device _ | .reg _ => true

/-- `Storable`, as a check. -/
def storable? (s : State) (window nb : Nat) (a : Addr) : Bool :=
  (List.range nb).all fun j => !s.inStream window (a + BitVec.ofNat 24 j) &&
    leads? (s.locate (a + BitVec.ofNat 24 j))

theorem storable_of {s : State} {window nb : Nat} {a : Addr} (h : storable? s window nb a = true) :
    Storable s window nb a := by
  intro j hj
  have := List.all_eq_true.mp h j (List.mem_range.mpr hj)
  simp only [Bool.and_eq_true, Bool.not_eq_true'] at this
  refine ⟨this.1, fun why hw => ?_⟩
  rw [hw] at this
  exact absurd this.2 (by simp [leads?])

/-- `Apart`, as a check. -/
def apart? (s : State) (a : Addr) (na : Nat) (b : Addr) (nb : Nat) : Bool :=
  (List.range na).all fun i => (List.range nb).all fun j =>
    phys s.mcuMode (a + BitVec.ofNat 24 i) != phys s.mcuMode (b + BitVec.ofNat 24 j)

theorem apart_of {s : State} {a b : Addr} {na nb : Nat} (h : apart? s a na b nb = true) : Apart s a na b nb := by
  intro i hi j hj
  have := List.all_eq_true.mp (List.all_eq_true.mp h i (List.mem_range.mpr hi)) j (List.mem_range.mpr hj)
  simpa using this

/-! #### Encoding and the step -/

theorem witness_DecodeOfEncode :
    (Instr.movWLoadPostInc 6 (.e 7)).wellFormed = true ∧ (Instr.trapa 3).wellFormed = true := ⟨rfl, rfl⟩

theorem witness_EncodeOfDecode :
    decode [0x01, 0x00, 0x6D, 0xF7] = .ok (.pushL 7, []) ∧ decode [0x57, 0x30, 0xFF] = .ok (.trapa 3, [0xFF]) :=
  ⟨rfl, rfl⟩

theorem witness_FetchReadsMemory : (Instr.nop).wellFormed = true ∧
    ∀ k, k < (encode .nop).length →
      (State.reset.locate (evenAddr State.reset.pc + BitVec.ofNat 24 k)).isDevice = false ∧
      State.reset.peekByte (evenAddr State.reset.pc + BitVec.ofNat 24 k) = .ok ((encode .nop).getD k 0) ∧
      (State.reset.locate (evenAddr State.reset.pc + BitVec.ofNat 24 k)).isMemory = true := by
  refine ⟨rfl, fun k hk => ?_⟩
  have : k = 0 ∨ k = 1 := by
    have : (encode .nop).length = 2 := rfl
    omega
  rcases this with rfl | rfl <;> exact ⟨rfl, rfl, rfl⟩

/-- In the middle of ROM; the last word of mode 7's ROM; bytes that are no instruction; the first word of a longer
instruction before the end of ROM. -/
theorem witness_StepRunsDecoded :
    (∃ (s : State) (i : Instr) (rest : List Byte), s.pstate = .program ∧ s.resLow = false ∧ s.stbyLow = false ∧
      s.samplePins.accepted = none ∧ s.pc = 0x001000#24 ∧
      decode (State.fetchWords (maxLength / 2) (evenAddr s.pc) s.samplePins).1 = .ok (i, rest)) ∧
    (∃ (s : State) (i : Instr) (rest : List Byte), s.pstate = .program ∧ s.resLow = false ∧ s.stbyLow = false ∧
      s.samplePins.accepted = none ∧ s.pc = 0x03FFFE#24 ∧
      decode (State.fetchWords (maxLength / 2) (evenAddr s.pc) s.samplePins).1 = .ok (i, rest)) ∧
    (∃ (s : State) (e : DecodeError), s.pstate = .program ∧ s.resLow = false ∧ s.stbyLow = false ∧
      s.samplePins.accepted = none ∧ e ≠ .truncated ∧
      decode (State.fetchWords (maxLength / 2) (evenAddr s.pc) s.samplePins).1 = .error e) ∧
    (∃ (s : State) (why : Stop), s.pstate = .program ∧ s.resLow = false ∧ s.stbyLow = false ∧
      s.samplePins.accepted = none ∧
      decode (State.fetchWords (maxLength / 2) (evenAddr s.pc) s.samplePins).1 = .error .truncated ∧
      (State.fetchWords (maxLength / 2) (evenAddr s.pc) s.samplePins).2 = some why) ∧
    (∃ u v : State, u.resDuring = none ∧ v.resDuring = some 1) :=
  ⟨⟨cpu [0x0C, 0x81] 0x80 [] [], _, _, rfl, rfl, rfl, rfl, rfl, rfl⟩,
    ⟨{ cpu [] 0x80 [] [] with pc := 0x03FFFE#24 }, _, _, rfl, rfl, rfl, rfl, rfl, rfl⟩,
    ⟨cpu [0x01, 0xC0, 0x51, 0x10] 0x80 [] [], .unowned, rfl, rfl, rfl, rfl, by decide, rfl⟩,
    ⟨{ cpu [] 0x80 [] [(0x03FFFE, 0x79)] with pc := 0x03FFFE#24 }, _, rfl, rfl, rfl, rfl, rfl, rfl⟩,
    ⟨State.reset, { State.reset with resDuring := some 1 }, rfl, rfl⟩⟩

theorem inv_reset : Inv State.reset :=
  ⟨rfl, rfl, rfl, rfl, rfl, fun h => by rcases h with h | h | h <;> cases h⟩

theorem witness_StepKeepsInvariant : ∃ s t : State, Inv s ∧ step s = .next t :=
  ⟨State.reset, _, inv_reset, rfl⟩

theorem witness_RegisterViews : (0 < 32 ∧ 7 < 32) ∧ (8 < 32 ∧ 15 < 32) ∧ (16 < 32 ∧ 31 < 32) := by decide

/-! #### Memory and control registers -/

/-- A device with a 16-bit bus in the internal I/O window, and the host's answers to two reads. -/
def deviceCpu : State :=
  { State.reset with platform := [⟨0x0FFFC0, 2, .device true, false⟩], deviceAnswers := [0x1234#16, 0x5678#16] }

/-- The first and the last byte of RAM; a longword of ROM; the first and the last longword of RAM; a device. -/
theorem witness_MemoryAccess :
    (State.reset.mem.wf = true ∧ (State.reset.locate 0x0FDF10#24).isRam = true ∧
      (State.reset.locate 0x0FFF0F#24).isRam = true) ∧
    (State.reset.peekByte 0xFFFFF2#24 = .ok 0x0B#8 ∧ (State.reset.locate 0xFFFFF2#24).isDevice = false ∧
      State.reset.locate 0xFFFFF2#24 ≠ .reg .isr) ∧
    HoldsLong (irqCpu [] 0 0x0B 0 Pins.high) (evenAddr 0x00002D#24) 0xFF004301#32 ∧
    (State.reset.resDuring = none ∧ RamAt State.reset 4 (evenAddr 0x0FDF11#24) ∧
      RamAt State.reset 4 (evenAddr 0x0FFF0C#24)) ∧
    (deviceCpu.locate 0x0FFFC1#24 = .device true ∧ deviceCpu.deviceAnswers = 0x1234#16 :: [0x5678#16]) ∧
    (deviceCpu.wideDevice (evenAddr 0x0FFFC1#24) = true ∧ deviceCpu.resDuring = none) :=
  ⟨⟨rfl, rfl, rfl⟩, ⟨rfl, rfl, by decide⟩, holdsLong_of (by decide),
    ⟨rfl, ramAt_of (by decide), ramAt_of (by decide)⟩, ⟨by decide, rfl⟩, by decide, rfl⟩

/-- The last word of ROM; the first and the last word of RAM. -/
theorem witness_WordAccess :
    ((State.reset.locate (evenAddr 0x03FFFF#24)).isDevice = false ∧
      State.reset.peekByte (evenAddr 0x03FFFF#24) = .ok 0 ∧ State.reset.peekByte (evenAddr 0x03FFFF#24 + 1) = .ok 0) ∧
    (State.reset.resDuring = none ∧ State.reset.mem.wf = true ∧ RamAt State.reset 2 (evenAddr 0x0FDF11#24) ∧
      RamAt State.reset 2 (evenAddr 0x0FFF0F#24)) :=
  ⟨⟨rfl, rfl, rfl⟩, rfl, rfl, ramAt_of (by decide), ramAt_of (by decide)⟩

/-- The first byte of on-chip RAM in mode 7, the last in mode 3. -/
theorem witness_DisabledRam :
    (∃ (s : State) (a : Addr), s.syscr.getLsbD 0 = false ∧
      topBase s.mcuMode + Product.ramStart s.product ≤ phys s.mcuMode a ∧
      phys s.mcuMode a < topBase s.mcuMode + 0xFF10 ∧ s.mcuMode = .mode7) ∧
    (∃ (s : State) (a : Addr), s.syscr.getLsbD 0 = false ∧
      topBase s.mcuMode + Product.ramStart s.product ≤ phys s.mcuMode a ∧
      phys s.mcuMode a < topBase s.mcuMode + 0xFF10 ∧ s.mcuMode ≠ .mode7) :=
  ⟨⟨{ State.reset with syscr := 0x0A#8 }, 0x0FDF10#24, rfl, by decide, by decide, rfl⟩,
    ⟨{ State.reset with syscr := 0x0A#8, mcuMode := .mode3 }, 0xFFFF0F#24, rfl, by decide, by decide, by decide⟩⟩

/-- The bounds of the map: the last byte of ROM, the hole of a smaller product, both ends of RAM, of the reserved area, of the
space between ROM and RAM, of the space between RAM and the registers, and of the registers. -/
theorem witness_AddressMap :
    [0x000000#24, 0x03FFFF#24].all (fun a => phys .mode7 a < 0x40000) = true ∧
    (∃ s : State, s.product = .h83021 ∧ s.mcuMode = .mode5 ∧
      [0x030000#24, 0x03FFFF#24].all (fun a => 0x30000 ≤ phys s.mcuMode a ∧ phys s.mcuMode a < 0x40000) = true) ∧
    (∃ s : State, s.syscr.getLsbD 0 = true ∧ s.mcuMode = .mode6 ∧
      [0xFFDF10#24, 0xFFFF0F#24].all (fun a => 0xFFDF10 ≤ phys s.mcuMode a ∧ phys s.mcuMode a < 0xFFFF10) = true) ∧
    (∃ s : State, s.product = .h83020 ∧ s.mcuMode = .mode7 ∧
      [0x0FDF10#24, 0xFFEF0F#24].all (fun a => 0x0FDF10 ≤ phys s.mcuMode a ∧ phys s.mcuMode a < 0x0FEF10) = true) ∧
    (∃ s t : State, s.mcuMode = .mode7 ∧ t.mcuMode = .mode1 ∧ t.platform = [] ∧ ∀ u, u = s ∨ u = t →
      ([0x040000#24, 0x0FDF0F#24].all (fun a => 0x40000 ≤ phys u.mcuMode a ∧ phys u.mcuMode a < 0x0FDF10) = true) ∧
      ([0xFFFF10#24, 0xFFFF1B#24].all (fun a => 0x0FFF10 ≤ phys u.mcuMode a ∧ phys u.mcuMode a < 0x0FFF1C) = true)) ∧
    (∃ (s : State) (r : PlatformRegion), [0xFFFF1C#24, 0xFFFFFF#24].all (fun a => 0x0FFF1C ≤ phys s.mcuMode a ∧
        s.platformRegion (phys s.mcuMode a) = none) = true ∧
      s.platformRegion (phys s.mcuMode 0xFFFFC0#24) = some r) := by
  refine ⟨by decide, ⟨{ State.reset with product := .h83021, mcuMode := .mode5 }, rfl, rfl, by decide⟩,
    ⟨{ State.reset with mcuMode := .mode6 }, rfl, rfl, by decide⟩,
    ⟨{ State.reset with product := .h83020 }, rfl, rfl, by decide⟩,
    ⟨State.reset, { State.reset with mcuMode := .mode1 }, rfl, rfl, rfl, fun u hu => ?_⟩,
    ⟨deviceCpu, _, by decide, rfl⟩⟩
  rcases hu with rfl | rfl <;> exact ⟨by decide, by decide⟩

/-- A flag read as 1 that is written 0, a flag not read, and nothing read with every flag set. -/
theorem witness_IsrClearing :
    (∃ (s : State) (w : Byte), s.isrRead.getLsbD 5 = true ∧ w.getLsbD 5 = false ∧ s.isrRead.getLsbD 0 = false ∧
      s.isr.getLsbD 0 = true) ∧
    (∃ s : State, s.isrRead = 0#8 ∧ s.isr = 0x33#8) :=
  ⟨⟨{ State.reset with isr := 0x33#8, isrRead := 0x20#8 }, 0#8, by decide, by decide, by decide, by decide⟩,
    ⟨{ State.reset with isr := 0x33#8 }, rfl, rfl⟩⟩

/-- A write that changes ISCR, IER, IPRA and IPRB. -/
theorem witness_ControlRegisters : ∃ (s : State) (v : Byte), ({ s with iscr := v } : State) ≠ s ∧
    ({ s with ier := v } : State) ≠ s ∧ ({ s with ipra := v } : State) ≠ s ∧ ({ s with iprb := v } : State) ≠ s :=
  ⟨State.reset, 0xFF#8, by decide, by decide, by decide, by decide⟩

/-! #### Data transfer -/

/-- A byte that can be read, at the two ends of RAM, a device's, and one that cannot. -/
theorem witness_LoadByte :
    (∃ (s s1 : State) (v : Byte), (Mode.postInc 1).modifies ≠ some (Reg8.num (.l 0)) ∧
      s.reg32 1 = 0x000FDF10#32 ∧ s.readByte (s.ea 1 (.postInc 1)) = .ok (v, s1)) ∧
    (∃ (s s1 : State) (v : Byte), (Mode.abs8 0x0F).modifies ≠ some (Reg8.num (.l 0)) ∧
      s.readByte (s.ea 1 (.abs8 0x0F)) = .ok (v, s1)) ∧
    (∃ s1, deviceCpu.readByte (deviceCpu.ea 1 (.abs8 0xC0)) = .ok (0x34#8, s1)) ∧
    (∃ (s : State) (why : Stop), (Mode.abs24 0x0FDF0F).modifies ≠ some (Reg8.num (.l 0)) ∧
      s.readByte (s.ea 1 (.abs24 0x0FDF0F)) = .error why) :=
  ⟨⟨cpu [] 0 [(1, 0x000FDF10)] [], _, _, by decide, rfl, rfl⟩, ⟨State.reset, _, _, by decide, rfl⟩, ⟨_, rfl⟩,
    ⟨State.reset, _, by decide, rfl⟩⟩

/-- Nothing can be read just before RAM. -/
theorem witness_LoadStops : ∃ (s : State) (v w : Stop), s.readWord (s.ea 2 (.abs24 0x0FDF0F)) = .error v ∧
    s.readLong (s.ea 4 (.abs24 0x0FDF0F)) = .error w := ⟨State.reset, _, _, rfl, rfl⟩

/-- The last word of RAM, and a word of a device. -/
theorem witness_LoadWord :
    (∃ (s s1 : State) (v : Word), (Mode.postInc 7).modifies ≠ some (Reg16.num (.e 6)) ∧
      s.readWord (s.ea 2 (.postInc 7)) = .ok (v, s1)) ∧
    (∃ s1, deviceCpu.readWord (deviceCpu.ea 2 (.abs16 0xFFC1)) = .ok (0x1234#16, s1)) :=
  ⟨⟨cpu [] 0 [(7, 0x000FFF0F)] [], _, _, by decide, rfl⟩, _, rfl⟩

theorem witness_LoadLong : ∃ (s s1 : State), (Mode.postInc 7).modifies ≠ some (6 : RegNum) ∧
    s.readLong (s.ea 4 (.postInc 7)) = .ok (0x12000000#32, s1) :=
  ⟨cpu [] 0 [(7, 0x000FFF0D)] [(0x0FFF0C, 0x12)], _, by decide, rfl⟩

/-- Code in RAM. -/
def ramCode : State := { State.reset with pc := 0x0FE000#24 }

/-- The last protected byte behind a store of 2 bytes, of 4 bytes, and an address at which nothing exists. -/
theorem witness_StoreStops : ramCode.resDuring = none ∧
    (ramCode.inStream (2 + 4) (ramCode.ea 1 (.abs24 0x0FE005)) = true ∧
      ramCode.inStream (2 + 4) (evenAddr (ramCode.ea 2 (.abs24 0x0FE005))) = true) ∧
    ramCode.inStream (4 + 4) (evenAddr (ramCode.ea 4 (.abs24 0x0FE007))) = true ∧
    ramCode.inStream (4 + 4) (evenAddr (ramCode.ea 4 (.abs24 0x0FDF0F))) = false ∧
    ramCode.locate (evenAddr (ramCode.ea 4 (.abs24 0x0FDF0F))) = .stop (.fault .unmapped) := by decide

/-- RES going low before a byte; between the words of a longword in on-chip RAM, whose last word is its last bus cycle;
before the last byte of a word and of a longword in external RAM, whose bytes are bus cycles. -/
theorem witness_StoreAbandoned :
    (∃ s : State, s.resDuring = some 0 ∧ s.mem.wf = true ∧ RamAt s 1 (s.ea 1 (.ind 1)) ∧
      Storable s (2 + 4) 1 (s.ea 1 (.ind 1))) ∧
    (∃ s : State, s.resDuring = some 1 ∧ s.mem.wf = true ∧ wordCycles s (evenAddr (s.ea 4 (.ind 1))) = 1 ∧
      wordCycles s (evenAddr (s.ea 4 (.ind 1)) + 2) = 1 ∧ RamAt s 4 (evenAddr (s.ea 4 (.ind 1))) ∧
      Storable s (4 + 4) 4 (evenAddr (s.ea 4 (.ind 1)))) ∧
    (∃ s t : State, s.resDuring = some 1 ∧ t.resDuring = some 3 ∧ ∀ u, u = s ∨ u = t → u.mem.wf = true ∧
      wordCycles u (evenAddr (u.ea 2 (.ind 1))) = 2 ∧ wordCycles u (evenAddr (u.ea 4 (.ind 1))) = 2 ∧
      wordCycles u (evenAddr (u.ea 4 (.ind 1)) + 2) = 2 ∧ RamAt u 4 (evenAddr (u.ea 4 (.ind 1))) ∧
      Storable u (4 + 4) 4 (evenAddr (u.ea 4 (.ind 1)))) := by
  refine ⟨⟨{ cpu [] 0 [(1, 0x000FDF10)] [] with resDuring := some 0 }, rfl, rfl, ramAt_of (by decide),
      storable_of (by decide)⟩,
    ⟨{ cpu [] 0 [(1, 0x000FDF10)] [] with resDuring := some 1 }, rfl, rfl, by decide, by decide, ramAt_of (by decide),
      storable_of (by decide)⟩,
    { cpu [] 0 [(1, 0x7000)] [] with mcuMode := .mode1, resDuring := some 1 },
    { cpu [] 0 [(1, 0x7000)] [] with mcuMode := .mode1, resDuring := some 3 }, rfl, rfl, fun u hu => ?_⟩
  rcases hu with rfl | rfl <;>
    exact ⟨rfl, by decide, by decide, by decide, ramAt_of (by decide), storable_of (by decide)⟩

/-- The first byte of RAM, SYSCR, a byte of ROM behind the instruction stream, and a device. -/
theorem witness_StoreByte :
    (∃ s : State, (Mode.preDec 1).modifies ≠ some (Reg8.num (.l 0)) ∧ s.resDuring = none ∧ s.mem.wf = true ∧
      s.ea 1 (.preDec 1) = 0x0FDF10#24 ∧ Storable s (2 + 4) 1 (s.ea 1 (.preDec 1))) ∧
    (∃ s : State, (Mode.abs8 0xF2).modifies ≠ some (Reg8.num (.l 0)) ∧ s.resDuring = none ∧ s.mem.wf = true ∧
      Storable s (2 + 4) 1 (s.ea 1 (.abs8 0xF2))) ∧
    (∃ s : State, (Mode.abs16 0x1006).modifies ≠ some (Reg8.num (.l 0)) ∧ s.pc = 0x001000#24 ∧ s.resDuring = none ∧
      s.mem.wf = true ∧ s.locate (s.ea 1 (.abs24 0x00100A)) = .rom 0x100A ∧
      Storable s (6 + 4) 1 (s.ea 1 (.abs24 0x00100A))) ∧
    Storable deviceCpu (2 + 4) 1 (deviceCpu.ea 1 (.abs8 0xC0)) :=
  ⟨⟨cpu [] 0 [(1, 0x000FDF11)] [], by decide, rfl, rfl, rfl, storable_of (by decide)⟩,
    ⟨State.reset, by decide, rfl, rfl, storable_of (by decide)⟩,
    ⟨cpu [] 0 [] [], by decide, rfl, rfl, rfl, rfl, storable_of (by decide)⟩, storable_of (by decide)⟩

/-- The last word of RAM, and the two registers ISCR and IER. -/
theorem witness_StoreWord :
    (∃ s : State, (Mode.preDec 7).modifies ≠ some (Reg16.num (.e 6)) ∧ s.resDuring = none ∧ s.mem.wf = true ∧
      s.ea 2 (.preDec 7) = 0x0FFF0E#24 ∧ Storable s (2 + 4) 2 (evenAddr (s.ea 2 (.preDec 7)))) ∧
    (∃ s : State, (Mode.abs16 0xFFF4).modifies ≠ some (Reg16.num (.e 6)) ∧ s.resDuring = none ∧ s.mem.wf = true ∧
      Storable s (4 + 4) 2 (evenAddr (s.ea 2 (.abs16 0xFFF4)))) :=
  ⟨⟨cpu [] 0 [(7, 0x000FFF10)] [], by decide, rfl, rfl, rfl, storable_of (by decide)⟩,
    ⟨State.reset, by decide, rfl, rfl, storable_of (by decide)⟩⟩

theorem witness_StoreLong : ∃ s : State, (Mode.preDec 7).modifies ≠ some (6 : RegNum) ∧ s.resDuring = none ∧
    s.mem.wf = true ∧ Storable s (4 + 4) 4 (evenAddr (s.ea 4 (.preDec 7))) :=
  ⟨cpu [] 0 [(7, 0x000FFF10)] [], by decide, rfl, rfl, storable_of (by decide)⟩

theorem witness_RefusedMoves : Reg8.num (.h 7) = 7 ∧ Reg8.num (.l 0) = 0 ∧ Reg16.num (.e 7) = 7 ∧
    Reg16.num (.r 0) = 0 := by decide

/-- `HitsStream`, from checks. -/
theorem hitsStream_of {len nb : Nat} {a : Addr} {s : State} (j k : Nat) (hr : s.resDuring = none)
    (hp : s.pc.getLsbD 0 = false)
    (hl : ((List.range nb).all fun j => leads? (s.locate (a + BitVec.ofNat 24 j))) = true) (hj : j < nb)
    (hk : k < len + 4) (h : phys s.mcuMode (a + BitVec.ofNat 24 j) = phys s.mcuMode (s.pc + BitVec.ofNat 24 k)) :
    HitsStream len nb a s :=
  ⟨hr, hp, fun i hi why hw => by
    have := List.all_eq_true.mp hl i (List.mem_range.mpr hi)
    rw [hw] at this
    exact absurd this (by simp [leads?]), j, k, hj, hk, h⟩

/-- Code in ROM, and code in RAM with the stack, a pointer and a block pointer near it. -/
def streamCpu : State :=
  { cpu [] 0 [(1, 0x000FE000), (2, 0x000FE005), (5, 0x1000), (6, 0x000FE007), (7, 0x000FE008), (4, 0x0201)] []
    with pc := 0x0FE000#24 }

/-- The first and the last protected byte of a MOV.B, in RAM and in ROM; a word, a longword with only its upper word in the
stream, a bit instruction, a call, TRAPA, and a block transfer whose first byte hits the last protected one. -/
theorem witness_StreamStoreRefused :
    (HitsStream 2 1 (streamCpu.ea 1 (.ind 1)) streamCpu ∧ HitsStream 2 1 (streamCpu.ea 1 (.ind 2)) streamCpu ∧
      HitsStream 2 1 (0x000005#24) State.reset) ∧
    HitsStream 4 2 (evenAddr (streamCpu.ea 2 (.ind 2))) streamCpu ∧
    HitsStream 4 4 (evenAddr (streamCpu.ea 4 (.abs24 0x0FE006))) streamCpu ∧
    HitsStream 4 1 (ea24 (streamCpu.reg32 2)) streamCpu ∧
    (CallForm streamCpu (.bsr8 2) 2 0x0FE004#24 streamCpu ∧ HitsStream 2 4 (frameAddr streamCpu) streamCpu) ∧
    (streamCpu.nmiDuringTransfer = none ∧ BlockReady 0 streamCpu ∧
      (streamCpu.locate (sourceAt streamCpu 0)).isMemory = true ∧ HitsStream 4 1 (destinationAt streamCpu 0) streamCpu ∧
      0 < (streamCpu.reg8 (.l 4)).toNat ∧ 0 < (streamCpu.reg16 (.r 4)).toNat) := by
  have no : ∀ j, ¬ j < 0 := fun j => Nat.not_lt_zero j
  refine ⟨⟨hitsStream_of 0 0 ?_ ?_ ?_ ?_ ?_ ?_, hitsStream_of 0 5 ?_ ?_ ?_ ?_ ?_ ?_, hitsStream_of 0 5 ?_ ?_ ?_ ?_ ?_ ?_⟩,
    hitsStream_of 1 5 ?_ ?_ ?_ ?_ ?_ ?_, hitsStream_of 0 6 ?_ ?_ ?_ ?_ ?_ ?_, hitsStream_of 0 5 ?_ ?_ ?_ ?_ ?_ ?_,
    ⟨.inl ⟨2, rfl, rfl, ?_, rfl⟩, hitsStream_of 0 4 ?_ ?_ ?_ ?_ ?_ ?_⟩, rfl,
    ⟨rfl, rfl, fun j h => absurd h (no j), fun j h => absurd h (no j), fun j h => absurd h (no j)⟩, ?_,
    hitsStream_of 0 7 ?_ ?_ ?_ ?_ ?_ ?_, ?_, ?_⟩ <;> decide

/-! #### Arithmetic -/

/-- The largest quotients that fit. -/
theorem witness_DivideUnsigned : ∃ s : State,
    ((s.reg8 (.l 1)).toNat ≠ 0 ∧ (s.reg16 (.r 0)).toNat / (s.reg8 (.l 1)).toNat = 255) ∧
    ((s.reg16 (.r 1)).toNat ≠ 0 ∧ (s.reg32 2).toNat / (s.reg16 (.r 1)).toNat = 65535) :=
  ⟨cpu [] 0 [(0, 0xFF), (1, 1), (2, 0xFFFF)] [], by decide⟩

/-- The smallest and the largest quotient that fit, a negative one, and one of 0 from operands of one sign. -/
theorem witness_DivideSigned : ∃ s : State,
    ((s.reg8 (.l 1)).toInt ≠ 0 ∧ (s.reg16 (.r 0)).toInt.tdiv (s.reg8 (.l 1)).toInt = -128) ∧
    ((s.reg8 (.l 1)).toInt ≠ 0 ∧ (s.reg16 (.r 2)).toInt.tdiv (s.reg8 (.l 1)).toInt = 127) ∧
    ((s.reg8 (.l 1)).toInt ≠ 0 ∧ (s.reg16 (.r 3)).toInt.tdiv (s.reg8 (.l 1)).toInt = 0 ∧
      ((s.reg16 (.r 3)).toInt < 0 ↔ (s.reg8 (.l 1)).toInt < 0)) ∧
    ((s.reg16 (.r 1)).toInt ≠ 0 ∧ (s.reg32 4).toInt.tdiv (s.reg16 (.r 1)).toInt = -32768) ∧
    ((s.reg16 (.r 1)).toInt ≠ 0 ∧ (s.reg32 5).toInt.tdiv (s.reg16 (.r 1)).toInt = 32767) ∧
    ((s.reg16 (.r 1)).toInt ≠ 0 ∧ (s.reg32 3).toInt.tdiv (s.reg16 (.r 1)).toInt = 0 ∧
      ((s.reg32 3).toInt < 0 ↔ (s.reg16 (.r 1)).toInt < 0)) :=
  ⟨cpu [] 0 [(0, 0xFF00), (1, 2), (2, 0xFF), (3, 1), (4, 0xFFFF0000), (5, 0xFFFF)] [], by decide⟩

theorem witness_DecimalArithmetic : ∃ s : State, s.reg8 (.l 0) = bcd 0 ∧ s.reg8 (.h 1) = bcd 99 ∧ s.reg8 (.l 2) = bcd 10 ∧
    cinOf (s.flag .C) = 1 := ⟨cpu [] 0x81 [(1, 0x9900), (2, 0x10)] [], by decide⟩

/-! #### Statements whose hypotheses only choose the instruction -/

theorem witness_AddAndSubtract : ∃ (i j : Instr) (u : Byte) (len : Nat) (w : Word), (i = .addBImm u (.l 0) ∧ u = 0xFF) ∧
    (j = .subWImm w (.e 0) ∧ len = 4 ∧ w = 0x8000) := ⟨_, _, _, _, _, ⟨rfl, rfl⟩, rfl, rfl, rfl⟩

theorem witness_Compare : ∃ (i j : Instr) (u : Byte) (len : Nat) (l : Long), (i = .cmpBImm u (.h 0) ∧ u = 0x80) ∧
    (j = .cmpLImm l 7 ∧ len = 6 ∧ l = 0x80000000) := ⟨_, _, _, _, _, ⟨rfl, rfl⟩, rfl, rfl, rfl⟩

theorem witness_AddAndSubtractWithCarry : ∃ (i j : Instr) (u v : Byte), (i = .addxImm u (.l 0) ∧ u = 0xFF) ∧
    (j = .subxReg (.l 1) (.l 0) ∧ v = State.reset.reg8 (.l 1)) := ⟨_, _, _, _, ⟨rfl, rfl⟩, rfl, rfl⟩

theorem witness_Logic : ∃ (i : Instr) (r : Byte), i = .xorBReg (.l 1) (.l 0) ∧
    r = State.reset.reg8 (.l 0) ^^^ State.reset.reg8 (.l 1) := ⟨_, _, rfl, rfl⟩

theorem witness_ShiftAndRotate : ∃ (i j : Instr) (low ar high : Bool),
    (i = .rotxlB (.l 0) ∧ low = State.reset.flag .C ∧ ar = false) ∧
    (j = .sharB (.l 0) ∧ high = (State.reset.reg8 (.l 0)).msb) := ⟨_, _, _, _, _, ⟨rfl, rfl, rfl⟩, rfl, rfl⟩

theorem witness_WriteBitOfRegister : ∃ (i : Instr) (k : Nat) (x : Bool), i = .bnotImmReg 7 (.l 0) ∧ k = (7#3).toNat ∧
    x = !(State.reset.reg8 (.l 0)).getLsbD k := ⟨_, _, _, rfl, rfl, rfl⟩

/-! #### Bits and branches -/

/-- A byte of RAM, SYSCR, one in the instruction stream, one that cannot be read, and RES going low. -/
theorem witness_WriteBitOfMemory :
    (∃ (s s1 : State) (v : Byte), s.resDuring = none ∧ s.mem.wf = true ∧
      s.readByte (ea24 (s.reg32 1)) = .ok (v, s1) ∧ s.inStream 8 (ea24 (s.reg32 1)) = false) ∧
    (∃ (s s1 : State) (v : Byte), s.resDuring = none ∧ s.mem.wf = true ∧
      s.readByte (0xFFFF#16 ++ 0xF2#8) = .ok (v, s1) ∧ s.inStream 8 (0xFFFF#16 ++ 0xF2#8) = false) ∧
    (∃ (s s1 : State) (v : Byte), s.resDuring = none ∧ s.readByte (ea24 (s.reg32 1)) = .ok (v, s1) ∧
      s.inStream 8 (ea24 (s.reg32 1)) = true) ∧
    (∃ (s : State) (why : Stop), s.readByte (0xFFFF#16 ++ 0x20#8) = .error why) ∧
    (∃ (s s1 : State) (v : Byte), s.resDuring = some 0 ∧ s.readByte (ea24 (s.reg32 1)) = .ok (v, s1)) :=
  ⟨⟨cpu [] 0 [(1, 0x000FDF10)] [], _, _, rfl, rfl, rfl, rfl⟩, ⟨State.reset, _, _, rfl, rfl, rfl, rfl⟩,
    ⟨cpu [] 0 [(1, 0x00001007)] [], _, _, rfl, rfl, rfl⟩, ⟨State.reset, _, rfl⟩,
    ⟨{ cpu [] 0 [(1, 0x000FDF10)] [] with resDuring := some 0 }, _, _, rfl, rfl⟩⟩

theorem witness_TestBitOfMemory :
    (∃ (s s1 : State) (v : Byte), s.readByte (ea24 (s.reg32 1)) = .ok (v, s1)) ∧
    (∃ (s s1 : State) (v : Byte), s.readByte (0xFFFF#16 ++ 0xF6#8) = .ok (v, s1)) ∧
    (∃ (s : State) (why : Stop), s.readByte (0xFFFF#16 ++ 0x20#8) = .error why) :=
  ⟨⟨cpu [] 0 [(1, 0x000FFF0F)] [], _, _, rfl⟩, ⟨State.reset, _, _, rfl⟩, State.reset, _, rfl⟩

theorem witness_CompareThenBranch : ∃ (i j k : Instr) (u : Byte) (v : Word) (w : Long),
    (i = .cmpBImm u (.h 0) ∧ u = 0x80) ∧ (j = .cmpWReg (.r 0) (.e 0) ∧ v = State.reset.reg16 (.r 0)) ∧
    (k = .cmpLImm w 7 ∧ w = 0x80000000) := ⟨_, _, _, _, _, _, ⟨rfl, rfl⟩, ⟨rfl, rfl⟩, rfl, rfl⟩

/-- A memory-indirect jump through the first and the last address of the table. -/
theorem witness_Jumps :
    HoldsLong State.reset (evenAddr ((0x00#8).zeroExtend 24)) 0#32 ∧
    HoldsLong State.reset (evenAddr ((0xFF#8).zeroExtend 24)) 0#32 :=
  ⟨holdsLong_of (by decide), holdsLong_of (by decide)⟩

/-- The stack at either end of RAM and in ROM, for a call through the table and for the longest of the calls. -/
theorem witness_Calls :
    (∃ (s s1 : State) (v : Long), s.resDuring = none ∧ s.mem.wf = true ∧ s.reg32 sp = 0x000FDF14#32 ∧
      RamAt s 4 (frameAddr s) ∧ Storable s (2 + 4) 4 (frameAddr s) ∧
      CallForm s (.jsrMemInd 0x20) 2 (ea24 v) s1) ∧
    (∃ s : State, s.resDuring = none ∧ s.mem.wf = true ∧ s.reg32 sp = 0x000FFF10#32 ∧ RamAt s 4 (frameAddr s) ∧
      Storable s (4 + 4) 4 (frameAddr s) ∧ CallForm s (.jsrAbs24 0x004301) 4 0x004301#24 s) ∧
    (∃ s : State, s.resDuring = none ∧ s.mem.wf = true ∧ s.locate (frameAddr s) = .rom 0x1FFC ∧
      Storable s (4 + 4) 4 (frameAddr s)) :=
  ⟨⟨cpu [] 0 [(7, 0x000FDF14)] vectors, _, 0x00004000#32, rfl, by decide, rfl, ramAt_of (by decide),
      storable_of (by decide), .inr (.inr (.inr (.inr ⟨0x20, 0x00004000#32, rfl, rfl, rfl, rfl⟩)))⟩,
    ⟨cpu [] 0 [(7, 0x000FFF10)] [], rfl, rfl, rfl, ramAt_of (by decide), storable_of (by decide),
      .inr (.inr (.inr (.inl ⟨_, rfl, rfl, rfl, rfl⟩)))⟩,
    ⟨cpu [] 0 [(7, 0x00002000)] [], rfl, rfl, rfl, storable_of (by decide)⟩⟩

theorem witness_Returns : HoldsLong (cpu [] 0 [(7, 0x000FFF0C)] [(0x0FFF0C, 0x80), (0x0FFF0E, 0x10)])
    (evenAddr 0x0FFF0C#24) 0x80001000#32 ∧
    (cpu [] 0 [(7, 0x000FFF0C)] [(0x0FFF0C, 0x80), (0x0FFF0E, 0x10)]).reg32 sp = 0x000FFF0C#32 :=
  ⟨holdsLong_of (by decide), rfl⟩

/-! #### System control and block transfer -/

theorem witness_LoadCcr :
    (∃ (s s1 : State) (w : Word), s.readWord (s.ea 2 (.postInc 7)) = .ok (w, s1)) ∧
    (∃ (s : State) (why : Stop), s.readWord (s.ea 2 (.abs24 0x0FDF0F)) = .error why) :=
  ⟨⟨cpu [] 0 [(7, 0x000FFF0E)] [], _, _, rfl⟩, State.reset, _, rfl⟩

theorem witness_StoreCcr : ∃ s : State, s.resDuring = none ∧ s.mem.wf = true ∧
    Storable s (4 + 4) 2 (evenAddr (s.ea 2 (.preDec 7))) ∧ Storable s (10 + 4) 2 (evenAddr (s.ea 2 (.disp24 0x0FDF10 0))) :=
  ⟨cpu [] 0 [(7, 0x000FFF10)] [], rfl, rfl, storable_of (by decide), storable_of (by decide)⟩

/-- SLEEP with SSBY cleared, and set. -/
theorem witness_NopAndSleep : ∃ s t : State, s.syscr.getLsbD 7 = false ∧ t.syscr.getLsbD 7 = true :=
  ⟨State.reset, { State.reset with syscr := 0x8B#8 }, by decide⟩

/-- TRAPA #0 and TRAPA #3. -/
theorem witness_TrapTakesException : ∃ s : State, s.resDuring = none ∧ s.mem.wf = true ∧ RamAt s 4 (frameAddr s) ∧
    Storable s 6 4 (frameAddr s) ∧
    (HoldsLong s (BitVec.ofNat 24 (4 * (8 + (0#2).toNat))) 0x00004000#32 ∧
      Apart s (BitVec.ofNat 24 (4 * (8 + (0#2).toNat))) 4 (frameAddr s) 4) ∧
    (HoldsLong s (BitVec.ofNat 24 (4 * (8 + (3#2).toNat))) 0xFF004301#32 ∧
      Apart s (BitVec.ofNat 24 (4 * (8 + (3#2).toNat))) 4 (frameAddr s) 4) :=
  ⟨cpu [] 0 [(7, 0x000FFF10)] vectors, rfl, by decide, ramAt_of (by decide), storable_of (by decide),
    ⟨holdsLong_of (by decide), apart_of (by decide)⟩, ⟨holdsLong_of (by decide), apart_of (by decide)⟩⟩

theorem witness_ReturnUndoesEntry : ∃ s : State, s.resDuring = none ∧ s.mem.wf = true ∧ s.pc.getLsbD 0 = false ∧
    RamAt s 4 (frameAddr s) ∧ Storable s 6 4 (frameAddr s) ∧ Storable s (4 + 4) 4 (frameAddr s) ∧
    HoldsLong s (BitVec.ofNat 24 (4 * (8 + (3#2).toNat))) 0xFF004301#32 ∧
    Apart s (BitVec.ofNat 24 (4 * (8 + (3#2).toNat))) 4 (frameAddr s) 4 ∧
    CallForm s (.jsrInd 7) 2 0x0FFF10#24 s :=
  ⟨cpu [] 0 [(7, 0x000FFF10)] vectors, rfl, by decide, rfl, ramAt_of (by decide), storable_of (by decide),
    storable_of (by decide), holdsLong_of (by decide), apart_of (by decide),
    .inr (.inr (.inl ⟨7, rfl, rfl, rfl, rfl⟩))⟩

theorem blockReady_of {n : Nat} {s : State} (hd : s.resDuring = none) (hm : s.mem.wf = true)
    (hs : ((List.range n).all fun j => (s.locate (sourceAt s j)).isMemory) = true)
    (hr : ramAt? s n (ea24 (s.reg32 6)) = true) (ht : storable? s 8 n (ea24 (s.reg32 6)) = true) : BlockReady n s :=
  ⟨hd, hm, fun j hj => List.all_eq_true.mp hs j (List.mem_range.mpr hj), ramAt_of hr, storable_of ht⟩

/-- A block of none, a block of three, a block of three whose destination is one byte above its source, and one byte to a
device. -/
theorem witness_BlockTransfer :
    (∃ s : State, s.nmiDuringTransfer = none ∧ s.reg8 (.l 4) = 0#8 ∧ s.reg16 (.r 4) = 0#16 ∧ BlockReady 0 s) ∧
    (∃ s : State, s.nmiDuringTransfer = none ∧ s.reg8 (.l 4) = 3#8 ∧ s.reg16 (.r 4) = 3#16 ∧ BlockReady 3 s) ∧
    (∃ s : State, s.nmiDuringTransfer = none ∧ s.reg8 (.l 4) = 3#8 ∧ BlockReady 3 s ∧
      phys s.mcuMode (sourceAt s 1) = phys s.mcuMode (destinationAt s 0) ∧
      phys s.mcuMode (sourceAt s 0) ≠ phys s.mcuMode (destinationAt s 2)) ∧
    (∃ (s s1 s2 : State) (v : Byte), s.nmiDuringTransfer = none ∧ s.reg8 (.l 4) ≠ 0#8 ∧
      s.readByte (sourceAt s 0) = .ok (v, s1) ∧ s1.storeByte 8 (destinationAt s 0) v = .ok s2) ∧
    (∃ (s : State) (why : Stop), s.reg16 (.r 4) ≠ 0#16 ∧ s.readByte (sourceAt s 0) = .error why) ∧
    (∃ (s s1 : State) (v : Byte) (why : Stop), s.reg16 (.r 4) ≠ 0#16 ∧ s.readByte (sourceAt s 0) = .ok (v, s1) ∧
      s1.storeByte 8 (destinationAt s 0) v = .error why) :=
  ⟨⟨State.reset, rfl, by decide, by decide, blockReady_of rfl rfl rfl rfl rfl⟩,
    ⟨cpu [] 0 [(4, 3), (5, 0x1000), (6, 0x000FFF0D)] [], rfl, by decide, by decide,
      blockReady_of rfl rfl (by decide) (by decide) (by decide)⟩,
    ⟨cpu [] 0 [(4, 3), (5, 0x000FDF10), (6, 0x000FDF11)] [], rfl, by decide,
      blockReady_of rfl rfl (by decide) (by decide) (by decide), by decide, by decide⟩,
    ⟨(deviceCpu.setReg32 4 1).setReg32 6 0x000FFFC0, _, _, _, rfl, by decide, rfl, rfl⟩,
    ⟨cpu [] 0 [(4, 1), (5, 0x000FDF0F)] [], _, by decide, rfl⟩,
    ⟨cpu [] 0 [(4, 1), (6, 0x000FDF0F)] [], _, _, _, by decide, rfl, rfl⟩⟩

/-- An NMI while the first byte moves, while the last one does, and one that comes too late. -/
theorem witness_BlockTransferInterrupted :
    (∃ s : State, s.nmiDuringTransfer = some 0 ∧ 0 < (s.reg16 (.r 4)).toNat ∧ BlockReady (0 + 1) s ∧
      0 < (s.reg8 (.l 4)).toNat ∧ BlockReady (s.reg8 (.l 4)).toNat s) ∧
    (∃ s : State, s.nmiDuringTransfer = some 2 ∧ (s.reg16 (.r 4)).toNat = 3 ∧ BlockReady (2 + 1) s ∧
      (s.reg8 (.l 4)).toNat = 3 ∧ BlockReady (s.reg8 (.l 4)).toNat s) ∧
    (∃ s : State, s.nmiDuringTransfer = some 3 ∧ (s.reg16 (.r 4)).toNat ≤ 3 ∧ BlockReady (s.reg16 (.r 4)).toNat s ∧
      (s.reg8 (.l 4)).toNat ≤ 3 ∧ BlockReady (s.reg8 (.l 4)).toNat s) :=
  ⟨⟨{ cpu [] 0 [(4, 3), (5, 0x1000), (6, 0x000FFF0D)] [] with nmiDuringTransfer := some 0 }, rfl, by decide,
      blockReady_of rfl rfl (by decide) (by decide) (by decide), by decide,
      blockReady_of rfl rfl (by decide) (by decide) (by decide)⟩,
    ⟨{ cpu [] 0 [(4, 3), (5, 0x1000), (6, 0x000FFF0D)] [] with nmiDuringTransfer := some 2 }, rfl, by decide,
      blockReady_of rfl rfl (by decide) (by decide) (by decide), by decide,
      blockReady_of rfl rfl (by decide) (by decide) (by decide)⟩,
    ⟨{ cpu [] 0 [(4, 3), (5, 0x1000), (6, 0x000FFF0D)] [] with nmiDuringTransfer := some 3 }, rfl, by decide,
      blockReady_of rfl rfl (by decide) (by decide) (by decide), by decide,
      blockReady_of rfl rfl (by decide) (by decide) (by decide)⟩⟩

/-! #### Interrupts, reset, processing states -/

/-- An NMI in the program execution state, an IRQ0 in sleep mode, an IRQ0 in software standby mode. -/
theorem witness_InterruptEntry :
    (∃ s : State, s.pstate = .program ∧ s.resLow = false ∧ s.resDuring = none ∧ s.stbyLow = false ∧
      s.samplePins.accepted = some .nmi ∧ s.mem.wf = true ∧ RamAt s 4 (frameAddr s) ∧
      (Source.nmi, 7) ∈ sourceVectors ∧ HoldsLong s (BitVec.ofNat 24 (4 * 7)) 0x00003000#32 ∧
      Apart s (BitVec.ofNat 24 (4 * 7)) 4 (frameAddr s) 4) ∧
    (∃ s t : State, (s.pstate = .sleep ∧ t.pstate = .softwareStandby) ∧ ∀ u, u = s ∨ u = t →
      u.resLow = false ∧ u.resDuring = none ∧ u.stbyLow = false ∧
      u.samplePins.accepted = some (.irq .irq0) ∧ u.mem.wf = true ∧ RamAt u 4 (frameAddr u) ∧
      (Source.irq .irq0, 12) ∈ sourceVectors ∧ HoldsLong u (BitVec.ofNat 24 (4 * 12)) 0x00002000#32 ∧
      Apart u (BitVec.ofNat 24 (4 * 12)) 4 (frameAddr u) 4) := by
  refine ⟨⟨irqCpu [] 0x80 0x0B 0 { Pins.high with nmi := false }, rfl, rfl, rfl, rfl, by decide, by decide,
      ramAt_of (by decide), by decide, holdsLong_of (by decide), apart_of (by decide)⟩,
    { irqCpu [] 0x00 0x0B 0 irq0Low with pstate := .sleep },
    { irqCpu [] 0x00 0x8B 0 irq0Low with pstate := .softwareStandby }, ⟨rfl, rfl⟩, fun u hu => ?_⟩
  rcases hu with rfl | rfl
  · exact ⟨rfl, rfl, rfl, by decide, by decide, ramAt_of (by decide), by decide, holdsLong_of (by decide),
      apart_of (by decide)⟩
  · exact ⟨rfl, rfl, rfl, by decide, by decide, ramAt_of (by decide), by decide, holdsLong_of (by decide),
      apart_of (by decide)⟩

/-- A line sensed by its edge, a line sensed by its level, and a bit of ISR that is no line's. -/
theorem witness_PinSampling :
    (∃ (s : State) (l : IrqLine), s.iscr.getLsbD l.bit = true ∧ s.pinsSeen.level l = true ∧ s.pins.level l = false) ∧
    (∃ (s : State) (l : IrqLine), s.iscr.getLsbD l.bit = false ∧ s.pins.level l = false) ∧
    (∀ k : IrqLine, 7 ≠ k.bit) :=
  ⟨⟨{ State.reset with iscr := 0x20#8, pins := { Pins.high with irq5 := false } }, .irq5, by decide, rfl, rfl⟩,
    ⟨{ State.reset with pins := irq0Low }, .irq0, by decide, rfl⟩, fun k => by cases k <;> decide⟩

theorem witness_InterruptAcceptance :
    State.reset.irqInhibit = true ∧
    (∃ s : State, s.irqInhibit = false ∧ s.nmiRequest = true) ∧
    (∃ s : State, s.irqInhibit = false ∧ s.nmiRequest = false ∧ s.presented = some (.internal .adi)) ∧
    (∃ s : State, s.nmiRequest = false ∧ s.presented = some (.internal .imia0) ∧
      Source.internal .adi ∈ s.maskableRequests) ∧
    (∃ (i : Nat) (rs : List Source), (i, rs) ∈ ipraGroups ∧ Source.irq .irq5 ∈ rs) ∧
    (∃ (i : Nat) (rs : List Source), (i, rs) ∈ iprbGroups IprbLayout.usual ∧ Source.internal .adi ∈ rs) :=
  ⟨rfl, ⟨{ State.reset with irqInhibit := false, nmiRequest := true }, rfl, rfl⟩,
    ⟨{ State.reset with irqInhibit := false, moduleRequests := [.adi] }, rfl, rfl, by decide⟩,
    ⟨{ State.reset with moduleRequests := [.adi, .imia0] }, rfl, by decide, by decide⟩,
    ⟨4, [.irq .irq4, .irq .irq5], by decide, by decide⟩, ⟨1, [.internal .adi], by decide, by decide⟩⟩

theorem witness_ResetExceptionHandling : ∃ (s : State) (v : Long), s.pstate = .reset ∧ s.resLow = false ∧
    s.stbyLow = false ∧ HoldsLong s 0#24 v :=
  ⟨{ cpu [] 0 [] [(2, 0x10)] with pstate := .reset }, 0x00001000#32, rfl, rfl, rfl, holdsLong_of (by decide)⟩

theorem witness_ResetAndStandbyPins :
    (∃ s : State, s.resLow = true ∧ s.pstate = .program) ∧
    (∃ s : State, s.resLow = true ∧ s.stbyLow = false ∧ s.pstate = .reset) ∧
    (∃ s : State, s.stbyLow = true ∧ s.resLow = true ∧ s.pstate = .reset) ∧
    (∃ s : State, s.stbyLow = true ∧ s.resLow = false ∧ s.pstate ≠ .hardwareStandby) ∧
    (∃ s : State, s.pstate = .hardwareStandby ∧ s.stbyLow = false ∧ s.resLow = true ∧ s.nmiRequest = true) :=
  ⟨⟨{ State.reset with resLow := true }, rfl, rfl⟩, ⟨{ State.reset with resLow := true, pstate := .reset }, rfl, rfl, rfl⟩,
    ⟨{ State.reset with resLow := true, stbyLow := true, pstate := .reset }, rfl, rfl, rfl⟩,
    ⟨{ State.reset with stbyLow := true }, rfl, rfl, by decide⟩,
    ⟨{ State.reset with pstate := .hardwareStandby, resLow := true, nmiRequest := true }, rfl, rfl, rfl, rfl⟩⟩

theorem witness_ResetDuringStep :
    (∃ s t : State, s.resDuring ≠ none ∧ step s = .next t) ∧
    (∃ s : State, s.pstate = .program ∧ s.resLow = false ∧ s.stbyLow = false ∧ s.samplePins.accepted = some .nmi ∧
      s.resDuring = some 0) :=
  ⟨⟨{ State.reset with resDuring := some 0 }, _, by decide, rfl⟩,
    ⟨{ irqCpu [] 0x80 0x0B 0 { Pins.high with nmi := false } with resDuring := some 0 }, rfl, rfl, rfl, by decide, rfl⟩⟩

theorem witness_SleepAndStandby :
    (∃ s : State, s.resLow = false ∧ s.resDuring = none ∧ s.stbyLow = false ∧ s.samplePins.accepted = none ∧ s.pstate = .sleep) ∧
    (∃ s : State, s.resLow = false ∧ s.resDuring = none ∧ s.stbyLow = false ∧ s.samplePins.accepted = none ∧
      s.pstate = .softwareStandby ∧ s.samplePins.wakes = false) ∧
    (∃ s : State, s.resLow = false ∧ s.resDuring = none ∧ s.stbyLow = false ∧ s.samplePins.accepted = none ∧
      s.pstate = .softwareStandby ∧ s.samplePins.wakes = true) :=
  ⟨⟨{ State.reset with pstate := .sleep }, rfl, rfl, rfl, rfl, rfl⟩,
    ⟨{ State.reset with pstate := .softwareStandby }, rfl, rfl, rfl, rfl, rfl, by decide⟩,
    ⟨{ irqCpu [] 0x80 0x8B 0x00 irq0Low with pstate := .softwareStandby }, rfl, rfl, rfl, by decide, rfl, by decide⟩⟩

end Sys2Proof.Tests
end

/-! SUPPORT. Even addresses as numbers, the one physical address of a cell, and words stored in RAM (R72, R76). -/

namespace Sys2Proof.Machine

/-! ### Even addresses as numbers -/

/-- Bit 0 of the even address is 0, the other bits are those of the address (R76). -/
theorem evenAddr_toNat (a : Addr) : (evenAddr a).toNat = 2 * (a.toNat / 2) := by
  have hmod : (a.toNat &&& 0xFFFFFE) % 2 = 0 := by simp [Nat.and_mod_two_pow (n := 1)]
  have hdiv : (a.toNat &&& 0xFFFFFE) / 2 = a.toNat / 2 :=
    calc (a.toNat &&& 0xFFFFFE) / 2 = a.toNat / 2 &&& (2 ^ 23 - 1) := Nat.and_div_two
      _ = a.toNat / 2 % 2 ^ 23 := Nat.and_two_pow_sub_one_eq_mod _ _
      _ = a.toNat / 2 := Nat.mod_eq_of_lt (by omega)
  rw [evenAddr, BitVec.toNat_and]
  change a.toNat &&& 0xFFFFFE = _
  omega

/-- The byte after an even address is selected by the next address: it never wraps (R72, R76). -/
theorem phys_evenAddr_add_one (m : McuMode) (a : Addr) : phys m (evenAddr a + 1) = phys m (evenAddr a) + 1 := by
  have he := evenAddr_toNat a
  have h1 : (evenAddr a + 1).toNat = (evenAddr a).toNat + 1 := by
    rw [BitVec.toNat_add, show (1 : Addr).toNat = 1 from rfl]
    omega
  unfold phys
  split <;> omega

/-! ### Accesses at an odd address -/

theorem readWord_evenAddr (s : State) (a : Addr) : s.readWord a = s.readWord (evenAddr a) := by
  simp only [State.readWord, evenAddr_idem]

theorem storeWord_evenAddr (s : State) (w : Nat) (a : Addr) (v : Word) :
    s.storeWord w a v = s.storeWord w (evenAddr a) v := by
  simp only [State.storeWord, evenAddr_idem]

theorem readLong_evenAddr (s : State) (a : Addr) : s.readLong a = s.readLong (evenAddr a) := by
  simp only [State.readLong, evenAddr_idem]

theorem storeLong_evenAddr (s : State) (w : Nat) (a : Addr) (v : Long) :
    s.storeLong w a v = s.storeLong w (evenAddr a) v := by
  simp only [State.storeLong, evenAddr_idem]

/-! ### Cells and addresses -/

/-- The cell a place reads or writes, if it is one. -/
def Place.cell : Place → Option Nat
  | .ram k | .rom k | .writeOnly k => some k
  | .disabledRam | .device _ | .reg _ | .stop _ => none

theorem externalPlace_cell {s : State} {p key k : Nat} (h : (s.externalPlace p key).cell = some k) : k = key := by
  unfold State.externalPlace at h
  split at h <;> simp_all [Place.cell]

theorem internalPlace_cell {s : State} {p low k : Nat} (h : (s.internalPlace p low).cell = some k) : k = p := by
  unfold State.internalPlace at h
  split at h
  · cases h
  · split at h <;> simp_all [Place.cell]

theorem phys_lt (m : McuMode) (a : Addr) : phys m a < behindRam := by
  have := a.isLt
  simp only [phys, behindRam]
  split <;> omega

/-- A cell has one physical address: its own number, or that number less `behindRam` (R72, log 16). -/
theorem phys_of_locate_cell {s : State} {a : Addr} {k : Nat} (h : (s.locate a).cell = some k) :
    phys s.mcuMode a = k % behindRam := by
  have hlt := phys_lt s.mcuMode a
  have hk : k = phys s.mcuMode a ∨ k = phys s.mcuMode a + behindRam := by
    simp only [State.locate] at h
    split_ifs at h
    · exact .inl (Option.some.inj h).symm
    · cases h
    · exact .inl (internalPlace_cell h)
    · exact .inl (Option.some.inj h).symm
    · cases h
    · exact .inr (externalPlace_cell h)
    · cases h
    · cases h
    · exact .inl (externalPlace_cell h)
  rcases hk with rfl | rfl
  · exact (Nat.mod_eq_of_lt hlt).symm
  · rw [Nat.add_mod_right, Nat.mod_eq_of_lt hlt]

/-- Bytes at different physical addresses are different cells. -/
theorem cell_ne_of_phys_ne {s : State} {a b : Addr} {j k : Nat} (ha : (s.locate a).cell = some j)
    (hb : (s.locate b).cell = some k) (h : phys s.mcuMode a ≠ phys s.mcuMode b) : j ≠ k := fun e =>
  h (by rw [phys_of_locate_cell ha, phys_of_locate_cell hb, e])

theorem Place.isRam_iff {p : Place} : p.isRam = true ↔ ∃ k, p = .ram k := by
  cases p <;> simp [Place.isRam]

/-! ### Bytes of a state whose cells have changed -/

/-- The map does not depend on what the cells hold. -/
theorem locate_with_mem (s : State) (m : Memory) (a : Addr) :
    ({ s with mem := m } : State).locate a = s.locate a :=
  locate_congr rfl rfl rfl rfl a

/-- A cell of RAM reads as what it holds. -/
theorem peekByte_of_ram {s : State} {a : Addr} {k : Nat} (h : s.locate a = .ram k) :
    s.peekByte a = .ok (s.mem.read k) := by
  simp only [State.peekByte, h]

theorem writeByte_of_ram {s : State} {a : Addr} {k : Nat} (v : Byte) (h : s.locate a = .ram k) :
    s.writeByte a v = .ok { s with mem := s.mem.write k v } := by
  simp only [State.writeByte, h]

/-- A byte reads as before where its cell, if it has one, holds what it held. -/
theorem peekByte_with_mem {s : State} {m : Memory} {a : Addr}
    (h : ∀ k, (s.locate a).cell = some k → m.read k = s.mem.read k) :
    ({ s with mem := m } : State).peekByte a = s.peekByte a := by
  unfold State.peekByte
  rw [locate_with_mem]
  cases hl : s.locate a with
  | ram k | rom k => exact congrArg Except.ok (h k (by rw [hl]; rfl))
  | writeOnly k | disabledRam | device w | stop e => rfl
  | reg r => cases r <;> rfl

/-! ### A word stored in RAM -/

@[simp] theorem inStream_zero (s : State) (a : Addr) : s.inStream 0 a = false := by
  simp [State.inStream]

theorem storeByte_of_ram {s : State} {a : Addr} {k : Nat} (v : Byte) (hr : s.resDuring = none)
    (h : s.locate a = .ram k) : s.storeByte 0 a v = .ok { s with mem := s.mem.write k v } := by
  rw [storeByte_of hr (inStream_zero s a), writeByte_of_ram v h]

/-- Two cells of RAM, written in one bus cycle or in two (R76, R99). -/
theorem storeWord_of_ram {s : State} {a : Addr} {j k : Nat} (v : Word) (hr : s.resDuring = none)
    (hj : s.locate (evenAddr a) = .ram j) (hk : s.locate (evenAddr a + 1) = .ram k) :
    s.storeWord 0 a v =
      .ok { s with mem := (s.mem.write j (v.extractLsb' 8 8)).write k (v.extractLsb' 0 8) } := by
  have hw : s.wideDevice (evenAddr a) = false := wideDevice_of (by rw [hj]; rfl)
  have hk' (m : Memory) : ({ s with mem := m } : State).locate (evenAddr a + 1) = .ram k :=
    (locate_with_mem ..).trans hk
  unfold State.storeWord
  split
  · rw [admitStore_of hr fun _ _ => inStream_zero s _]
    change s.writeWord (evenAddr a) v = _
    rw [State.writeWord, if_neg (by simp [hw]), writeByte_of_ram _ hj]
    exact writeByte_of_ram _ (hk' _)
  · rw [storeByte_of_ram _ hr hj]
    exact storeByte_of_ram _ hr (hk' _)

/-- What a word stored in RAM leaves: its two bytes, and every other byte as it was (R74, R76). -/
theorem storeWord_ram_effect {s : State} {a : Addr} (v : Word) (hr : s.resDuring = none) (hm : s.mem.wf = true)
    (hram : RamAt s 2 (evenAddr a)) :
    ∃ t, s.storeWord 0 a v = .ok t ∧ t.peekByte (evenAddr a) = .ok (v.extractLsb' 8 8) ∧
      t.peekByte (evenAddr a + 1) = .ok (v.extractLsb' 0 8) ∧ SameOutside s t (evenAddr a) 2 ∧ SameControl s t := by
  obtain ⟨j, hj⟩ := Place.isRam_iff.mp (by simpa using hram 0 (by decide))
  obtain ⟨k, hk : s.locate (evenAddr a + 1) = .ram k⟩ := Place.isRam_iff.mp (hram 1 (by decide))
  have hjc : (s.locate (evenAddr a)).cell = some j := by rw [hj]; rfl
  have hkc : (s.locate (evenAddr a + 1)).cell = some k := by rw [hk]; rfl
  have hjk : j ≠ k := cell_ne_of_phys_ne hjc hkc (by rw [phys_evenAddr_add_one]; omega)
  have hm1 : (s.mem.write j (v.extractLsb' 8 8)).wf = true := Memory.wf_write _ _ hm
  refine ⟨_, storeWord_of_ram v hr hj hk, ?_, ?_, fun b hb hout => peekByte_with_mem fun c hc => ?_,
    ⟨rfl, rfl, rfl, rfl, rfl, rfl, rfl⟩⟩
  · rw [peekByte_of_ram ((locate_with_mem ..).trans hj), Memory.read_write _ _ _ hm1, Memory.read_write _ _ _ hm,
      if_neg hjk, if_pos rfl]
  · rw [peekByte_of_ram ((locate_with_mem ..).trans hk), Memory.read_write _ _ _ hm1, if_pos rfl]
  · have hcj : c ≠ j := cell_ne_of_phys_ne hc hjc (by simpa using hout 0 (by decide))
    have hck : c ≠ k := cell_ne_of_phys_ne hc hkc (hout 1 (by decide))
    rw [Memory.read_write _ _ _ hm1, Memory.read_write _ _ _ hm, if_neg hck, if_neg hcj]

/-- Settles O11: an access takes its address through `evenAddr` only, which is idempotent, and in RAM the two bytes of a
word are different cells. -/
theorem wordAccess : Obligations.WordAccess :=
  ⟨readWord_evenAddr, storeWord_evenAddr, readLong_evenAddr, storeLong_evenAddr, evenAddr_toNat,
    fun _ _ _ _ hd hh hl => ⟨_, readWord_of_peek hd hh hl⟩,
    fun _ _ v hr hm hram => storeWord_ram_effect v hr hm hram⟩

end Sys2Proof.Machine

/-! SUPPORT. Effective addresses as numbers (R83 to R87). -/

namespace Sys2Proof.Machine

/-! ### The lower 24 bits of a register and of a sum -/

theorem ea24_toNat (l : Long) : (ea24 l).toNat = l.toNat % 2 ^ 24 := by
  simp [ea24]

/-- A sign-extended bit vector is the number it stood for, modulo the new width. -/
theorem signExtend_toNat {w : Nat} (v : Nat) (d : BitVec w) :
    ((d.signExtend v).toNat : Int) = d.toInt % 2 ^ v := by
  rw [BitVec.signExtend, BitVec.toNat_ofInt, Int.toNat_of_nonneg (Int.emod_nonneg _ (by positivity))]
  push_cast
  rfl

/-- A register and a signed displacement (R84). -/
theorem ea24_add_signExtend (l : Long) (d : BitVec 16) :
    ((ea24 (l + d.signExtend 32)).toNat : Int) = (l.toNat + d.toInt) % 2 ^ 24 := by
  have hd := signExtend_toNat 32 d
  rw [ea24_toNat, BitVec.toNat_add]
  omega

/-- A register and an unsigned displacement (R84). -/
theorem ea24_add_zeroExtend (l : Long) (d : BitVec 24) :
    (ea24 (l + d.zeroExtend 32)).toNat = (l.toNat + d.toNat) % 2 ^ 24 := by
  have hd : (d.zeroExtend 32).toNat = d.toNat := BitVec.toNat_setWidth_of_le (by decide)
  rw [ea24_toNat, BitVec.toNat_add, hd]
  omega

/-- A register less the operand size (R86). -/
theorem ea24_sub_ofNat (l : Long) (nb : Nat) :
    ((ea24 (l - BitVec.ofNat 32 nb)).toNat : Int) = (l.toNat - (nb : Int)) % 2 ^ 24 := by
  rw [ea24_toNat, BitVec.toNat_sub, BitVec.toNat_ofNat]
  omega

/-- The 8-bit absolute addresses are the last 256 of the address space (R87). -/
theorem abs8_toNat (b : BitVec 8) : (0xFFFF#16 ++ b).toNat = 0xFFFF00 + b.toNat := by
  rw [BitVec.toNat_append, ← Nat.shiftLeft_add_eq_or_of_lt b.isLt]
  rfl

/-- Only `@ERn+` and `@-ERn` change the state (R85, R86). -/
theorem mode_registers_unchanged {m : Mode} (h : m.modifies = none) (s : State) (nb : Nat) :
    s.preDecrement nb m = s ∧ s.postIncrement nb m = s := by
  cases m with
  | postInc n | preDec n => cases h
  | ind n | disp16 d n | disp24 d n | abs8 b | abs16 d | abs24 e => exact ⟨rfl, rfl⟩

/-- Settles O16: each mode's address is one of the sums above. -/
theorem effectiveAddresses : Obligations.EffectiveAddresses := by
  intro s nb n d e b
  refine ⟨ea24_toNat _, ea24_add_signExtend _ d, ea24_add_zeroExtend _ e, abs8_toNat b, signExtend_toNat 24 d, rfl,
    fun m hm => mode_registers_unchanged ?_ s nb, ea24_toNat _, ea24_sub_ofNat _ nb⟩
  rcases hm with rfl | rfl | rfl | rfl | rfl | rfl <;> rfl

end Sys2Proof.Machine

/-! SUPPORT. What an instruction can do to a property of states, said once for all instructions. -/

namespace Sys2Proof.Machine

/-- A property of states that every part of an instruction keeps: the writes, the reads, the changes to registers, CCR and
PC, the hold-off, the power-down, an NMI, and RES going low. -/
structure Robust (P : State → Prop) : Prop extends Stable P where
  cpu : ∀ s e c d, P s → P { s with er := e, ccr := c, draws := d }
  setPc : ∀ s a, P s → P (s.setPc a)
  noteRead : ∀ s a, P s → P (s.noteRead a)
  callRead : ∀ s a n v, P s → P (s.callRead a n v)
  hold : ∀ s b, P s → P { s with irqInhibit := b }
  powerDown : ∀ s, P s → P s.powerDown
  nmi : ∀ s, P s → P { s with nmiRequest := true, nmiDuringTransfer := none }
  abandon : ∀ s, P s → P s.abandon

namespace Robust

variable {P : State → Prop} {s t : State}

/-! ### Registers, PC and CCR -/

theorem setReg32 (hP : Robust P) (n : RegNum) (v : Long) (hs : P s) : P (s.setReg32 n v) :=
  hP.cpu s (s.er.set n.val v) s.ccr s.draws hs

theorem setReg16 (hP : Robust P) (r : Reg16) (v : Word) (hs : P s) : P (s.setReg16 r v) :=
  hP.setReg32 _ _ hs

theorem setReg8 (hP : Robust P) (r : Reg8) (v : Byte) (hs : P s) : P (s.setReg8 r v) :=
  hP.setReg32 _ _ hs

theorem setCcr (hP : Robust P) (v : Byte) (hs : P s) : P (s.setCcr v) := hP.cpu s s.er v s.draws hs

theorem drawn (hP : Robust P) (k : Nat) (hs : P s) : P (s.drawn k) := hP.cpu s s.er s.ccr (s.draws + k) hs

theorem advance (hP : Robust P) (len : Nat) (hs : P s) : P (s.advance len) := hP.setPc s _ hs

theorem preDecrement (hP : Robust P) (nb : Nat) (m : Mode) (hs : P s) : P (s.preDecrement nb m) := by
  obtain ⟨e, he⟩ := preDecrement_eq s nb m
  rw [he]
  exact hP.cpu s e s.ccr s.draws hs

theorem postIncrement (hP : Robust P) (nb : Nat) (m : Mode) (hs : P s) : P (s.postIncrement nb m) := by
  obtain ⟨e, he⟩ := postIncrement_eq s nb m
  rw [he]
  exact hP.cpu s e s.ccr s.draws hs

/-! ### Reads -/

theorem readByte (hP : Robust P) {a : Addr} {v : Byte} (hs : P s) (h : s.readByte a = .ok (v, t)) : P t := by
  obtain ⟨-, rfl⟩ := readByte_ok h
  exact hP.noteRead s a hs

theorem readWord (hP : Robust P) {a : Addr} {v : Word} (hs : P s) (h : s.readWord a = .ok (v, t)) : P t := by
  rcases readWord_ok h with ⟨-, -, rfl⟩ | ⟨-, hi, lo, s1, h1, h2, -⟩
  · exact hP.callRead s _ 2 _ hs
  · exact hP.readByte (hP.readByte hs h1) h2

theorem readLong (hP : Robust P) {a : Addr} {v : Long} (hs : P s) (h : s.readLong a = .ok (v, t)) : P t := by
  obtain ⟨hi, lo, s1, h1, h2, -⟩ := readLong_ok h
  exact hP.readWord (hP.readWord hs h1) h2

theorem readBitOperand (hP : Robust P) {o : BitOperand} {v : Byte} (hs : P s) (h : s.readBitOperand o = .ok (v, t)) :
    P t := by
  cases o with
  | reg rd => cases h; exact hs
  | ind n => exact hP.readByte hs h
  | abs8 aa => exact hP.readByte hs h

theorem afterFetch (hP : Robust P) (k : Nat) (a : Addr) (hs : P s) : P (State.afterFetch k a s) := by
  induction k generalizing a s with
  | zero => exact hs
  | succ k ih =>
    unfold State.afterFetch
    split
    · exact hs
    · exact ih _ (hP.readWord hs (by assumption))

/-! ### Stack, calls, exceptions -/

theorem pushLong (hP : Robust P) (w : Nat) (v : Long) (hs : P s) : Keeps P (s.pushLong w v) :=
  hP.storeLong (hP.setReg32 sp _ hs) w _ v

theorem popLong (hP : Robust P) {v : Long} (hs : P s) (h : s.popLong = .ok (v, t)) : P t := by
  obtain ⟨s1, h1, rfl⟩ := popLong_ok h
  exact hP.setReg32 sp _ (hP.readLong hs h1)

theorem popLong_not_abandoned (s t : State) : s.popLong ≠ .error (.abandoned t) := fun h => by
  rcases bind_error h with h | ⟨a, -, h⟩
  · exact readLong_not_abandoned s t _ h
  · cases h

theorem callSubroutine (hP : Robust P) (len : Nat) (target : Addr) (hs : P s) : Keeps P (s.call len target) :=
  (hP.pushLong _ _ (hP.drawn 1 hs)).bind fun s1 h1 =>
    ⟨fun t h => by cases h; exact hP.setPc s1 target h1, fun t h => by cases h⟩

theorem vectorTo (hP : Robust P) (k : Nat) (hs : P s) : Keeps P (s.vectorTo k) := by
  refine ⟨fun t h => ?_, fun t h => ?_⟩
  · obtain ⟨v, s1, h1, rfl⟩ := vectorTo_ok h
    exact hP.setPc s1 _ (hP.readLong hs h1)
  · rcases bind_error h with h | ⟨a, -, h⟩
    · exact absurd h (readLong_not_abandoned s t _)
    · cases h

theorem takeException (hP : Robust P) (w k : Nat) (ret : Addr) (hs : P s) : Keeps P (s.takeException w k ret) :=
  (hP.pushLong w _ hs).bind fun _ h1 => hP.vectorTo k (hP.setCcr _ h1)

theorem returnFromException (hP : Robust P) (hs : P s) : Keeps P s.returnFromException := by
  refine ⟨fun t h => ?_, fun t h => ?_⟩
  · obtain ⟨v, s1, h1, rfl⟩ := returnFromException_ok h
    exact hP.setPc _ _ (hP.setCcr _ (hP.popLong hs h1))
  · rcases bind_error h with h | ⟨a, -, h⟩
    · exact absurd h (popLong_not_abandoned s t)
    · cases h

/-! ### Block transfer -/

theorem transferByte (hP : Robust P) (len : Nat) (hs : P s) : Keeps P (s.transferByte len) := by
  refine ⟨fun t h => ?_, fun t h => ?_⟩
  · obtain ⟨⟨v, s1⟩, h1, h2⟩ := bind_ok h
    obtain ⟨s2, h3, h4⟩ := bind_ok h2
    cases h4
    exact hP.setReg32 6 _ (hP.setReg32 5 _ ((hP.storeByte (hP.readByte hs h1) _ _ v).1 s2 h3))
  · rcases bind_error h with h | ⟨⟨v, s1⟩, h1, h2⟩
    · exact absurd h (readByte_not_abandoned s t _)
    · rcases bind_error h2 with h | ⟨s2, -, h⟩
      · exact (hP.storeByte (hP.readByte hs h1) _ _ v).2 t h
      · cases h

theorem transferB (hP : Robust P) (k len : Nat) (hs : P s) : Keeps P (State.transferB k len s) := by
  induction k generalizing s with
  | zero => exact ⟨fun t h => by cases h; exact hs, fun t h => by cases h⟩
  | succ k ih => exact (hP.transferByte len hs).bind fun s1 h1 => ih (hP.setReg8 (.l 4) _ h1)

theorem transferW (hP : Robust P) (k len : Nat) (hs : P s) : Keeps P (State.transferW k len s) := by
  induction k generalizing s with
  | zero => exact ⟨fun t h => by cases h; exact hs, fun t h => by cases h⟩
  | succ k ih => exact (hP.transferByte len hs).bind fun s1 h1 => ih (hP.setReg16 (.r 4) _ h1)

theorem nmiArrived (hP : Robust P) (count : Nat) (hs : P s) : P (s.nmiArrived count) := by
  unfold State.nmiArrived
  split
  · exact hs
  · split
    · exact hP.nmi s hs
    · exact hs

theorem eepmovB (hP : Robust P) (len : Nat) (hs : P s) : Keeps P (s.eepmovB len) :=
  (hP.transferB _ len hs).bind fun _ h1 =>
    ⟨fun t h => by cases h; exact hP.advance len (hP.nmiArrived _ h1), fun t h => by cases h⟩

theorem eepmovW (hP : Robust P) (len : Nat) (hs : P s) : Keeps P (s.eepmovW len) :=
  (hP.transferW _ len hs).bind fun _ h1 =>
    ⟨fun t h => by cases h; exact hP.advance len (hP.nmiArrived _ h1), fun t h => by cases h⟩

/-! ### The shapes of instruction -/

theorem modifyB (hP : Robust P) {f : Byte → Byte → Alu 8} {rd : Reg8} {len : Nat} (hs : P s)
    (h : Machine.modifyB f rd len s = .next t) : P t := by
  cases h
  exact hP.advance len (hP.setCcr _ (hP.setReg8 rd _ hs))

theorem modifyW (hP : Robust P) {f : Word → Byte → Alu 16} {rd : Reg16} {len : Nat} (hs : P s)
    (h : Machine.modifyW f rd len s = .next t) : P t := by
  cases h
  exact hP.advance len (hP.setCcr _ (hP.setReg16 rd _ hs))

theorem modifyL (hP : Robust P) {f : Long → Byte → Alu 32} {rd : RegNum} {len : Nat} (hs : P s)
    (h : Machine.modifyL f rd len s = .next t) : P t := by
  cases h
  exact hP.advance len (hP.setCcr _ (hP.setReg32 rd _ hs))

theorem compare (hP : Robust P) {ccr : Byte} {len : Nat} (hs : P s) (h : Machine.compare ccr len s = .next t) : P t := by
  cases h
  exact hP.advance len (hP.setCcr ccr hs)

theorem loadB (hP : Robust P) {m : Mode} {rd : Reg8} {len : Nat} (hs : P s) (h : Machine.loadB m rd len s = .next t) :
    P t := by
  obtain ⟨-, v, s1, h1, rfl⟩ := loadB_next h
  exact hP.advance len (hP.setCcr _ (hP.setReg8 rd v (hP.postIncrement 1 m (hP.readByte hs h1))))

theorem loadW (hP : Robust P) {m : Mode} {rd : Reg16} {len : Nat} (hs : P s) (h : Machine.loadW m rd len s = .next t) :
    P t := by
  obtain ⟨-, v, s1, h1, rfl⟩ := loadW_next h
  exact hP.advance len (hP.setCcr _ (hP.setReg16 rd v (hP.postIncrement 2 m (hP.readWord hs h1))))

theorem loadL (hP : Robust P) {m : Mode} {rd : RegNum} {len : Nat} (hs : P s) (h : Machine.loadL m rd len s = .next t) :
    P t := by
  obtain ⟨-, v, s1, h1, rfl⟩ := loadL_next h
  exact hP.advance len (hP.setCcr _ (hP.setReg32 rd v (hP.postIncrement 4 m (hP.readLong hs h1))))

theorem storeB (hP : Robust P) {m : Mode} {rs : Reg8} {len : Nat} (hs : P s) (h : Machine.storeB rs m len s = .next t) :
    P t := by
  have hk := hP.storeByte (hP.preDecrement 1 m hs) (window len) (s.ea 1 m) (s.reg8 rs)
  rcases storeB_next h with ⟨-, ⟨s1, h1, rfl⟩ | ⟨s1, h1, rfl⟩⟩
  · exact hP.advance len (hP.setCcr _ (hk.1 s1 h1))
  · exact hP.abandon s1 (hk.2 s1 h1)

theorem storeW (hP : Robust P) {m : Mode} {rs : Reg16} {len : Nat} (hs : P s) (h : Machine.storeW rs m len s = .next t) :
    P t := by
  have hk := hP.storeWord (hP.preDecrement 2 m hs) (window len) (s.ea 2 m) (s.reg16 rs)
  rcases storeW_next h with ⟨-, ⟨s1, h1, rfl⟩ | ⟨s1, h1, rfl⟩⟩
  · exact hP.advance len (hP.setCcr _ (hk.1 s1 h1))
  · exact hP.abandon s1 (hk.2 s1 h1)

theorem storeL (hP : Robust P) {m : Mode} {rs : RegNum} {len : Nat} (hs : P s) (h : Machine.storeL rs m len s = .next t) :
    P t := by
  have hk := hP.storeLong (hP.preDecrement 4 m hs) (window len) (s.ea 4 m) (s.reg32 rs)
  rcases storeL_next h with ⟨-, ⟨s1, h1, rfl⟩ | ⟨s1, h1, rfl⟩⟩
  · exact hP.advance len (hP.setCcr _ (hk.1 s1 h1))
  · exact hP.abandon s1 (hk.2 s1 h1)

theorem loadCcr (hP : Robust P) {m : Mode} {len : Nat} (hs : P s) (h : Machine.loadCcr m len s = .next t) : P t := by
  obtain ⟨w, s1, h1, rfl⟩ := loadCcr_next h
  exact hP.hold _ true (hP.advance len (hP.setCcr _ (hP.postIncrement 2 m (hP.readWord hs h1))))

theorem storeCcr (hP : Robust P) {m : Mode} {len : Nat} (hs : P s) (h : Machine.storeCcr m len s = .next t) : P t := by
  have hk := hP.storeWord (hP.preDecrement 2 m (hP.drawn 1 hs)) (window len) (s.ea 2 m) (s.ccr ++ s.freeByte)
  rcases storeCcr_next h with ⟨s1, h1, rfl⟩ | ⟨s1, h1, rfl⟩
  · exact hP.advance len (hk.1 s1 h1)
  · exact hP.abandon s1 (hk.2 s1 h1)

theorem writeCcr (hP : Robust P) {v : Byte} {len : Nat} (hs : P s) (h : Machine.writeCcr v len s = .next t) : P t := by
  cases h
  exact hP.hold _ true (hP.advance len (hP.setCcr v hs))

theorem writeBitOperand (hP : Robust P) (v : Byte) (o : BitOperand) (hs : P s) : Keeps P (s.writeBitOperand v o) := by
  cases o with
  | reg rd => exact ⟨fun t h => by cases h; exact hP.setReg8 rd v hs, fun t h => by cases h⟩
  | ind n => exact hP.storeByte hs _ _ v
  | abs8 aa => exact hP.storeByte hs _ _ v

theorem modifyBit (hP : Robust P) {f : Bool → Bool} {b : BitVec 3} {o : BitOperand} (hs : P s)
    (h : Machine.modifyBit f b o s = .next t) : P t := by
  obtain ⟨v, s1, h1, h2⟩ := modifyBit_next h
  have hk := hP.writeBitOperand (putBit v b (f (bitOfByte v b))) o (hP.readBitOperand hs h1)
  rcases h2 with ⟨s2, h2, rfl⟩ | ⟨s2, h2, rfl⟩
  · exact hP.advance _ (hk.1 s2 h2)
  · exact hP.abandon s2 (hk.2 s2 h2)

theorem testBit (hP : Robust P) {f : Flag} {g : Bool → Bool} {b : BitVec 3} {o : BitOperand} (hs : P s)
    (h : Machine.testBit f g b o s = .next t) : P t := by
  obtain ⟨v, s1, h1, rfl⟩ := testBit_next h
  exact hP.advance _ (hP.setCcr _ (hP.readBitOperand hs h1))

theorem branch (hP : Robust P) {taken : Bool} {d : BranchDisp} (hs : P s) (h : Machine.branch taken d s = .next t) :
    P t := by
  cases h
  split
  · exact hP.setPc s _ hs
  · exact hP.advance _ hs

/-- A longword read, then something that keeps the property. -/
theorem readLong_bind (hP : Robust P) {a : Addr} {f : Long × State → Res State} (hs : P s)
    (hf : ∀ v s1, P s1 → Keeps P (f (v, s1))) : Keeps P (s.readLong a >>= f) := by
  refine ⟨fun t h => ?_, fun t h => ?_⟩
  · obtain ⟨⟨v, s1⟩, h1, h2⟩ := bind_ok h
    exact (hf v s1 (hP.readLong hs h1)).1 t h2
  · rcases bind_error h with h | ⟨⟨v, s1⟩, h1, h2⟩
    · exact absurd h (readLong_not_abandoned s t a)
    · exact (hf v s1 (hP.readLong hs h1)).2 t h2

theorem rts (hP : Robust P) (hs : P s) (h : execRts s = .next t) : P t := by
  rcases finish_bind_next h with ⟨⟨v, s1⟩, h1, h2⟩ | ⟨s2, h1, -⟩
  · cases h2
    exact hP.setPc s1 _ (hP.popLong hs h1)
  · exact absurd h1 (popLong_not_abandoned s s2)

/-- What every part of an instruction keeps, every instruction keeps. -/
theorem exec (hP : Robust P) {i : Instr} (hs : P s) (h : Machine.exec i s = .next t) : P t := by
  cases i with
  | movBRegReg | movBImm | addBImm | addBReg | subBReg | negB | addxImm | addxReg | subxImm | subxReg | incB | decB
  | andBImm | andBReg | orBImm | orBReg | xorBImm | xorBReg | notB | shalB | sharB | shllB | shlrB | rotlB | rotrB
  | rotxlB | rotxrB => exact hP.modifyB hs h
  | daa | das => exact hP.modifyB (hP.drawn 1 hs) h
  | movWRegReg | movWImm | addWImm | addWReg | subWImm | subWReg | negW | incW | decW | mulxuB | mulxsB | extsW | extuW
  | andWImm | andWReg | orWImm | orWReg | xorWImm | xorWReg | notW | shalW | sharW | shllW | shlrW | rotlW | rotrW
  | rotxlW | rotxrW => exact hP.modifyW hs h
  | divxuB => exact hP.modifyW (hP.drawn 1 hs) h
  | divxsB => exact hP.modifyW (hP.drawn 2 hs) h
  | movLRegReg | movLImm | addLImm | addLReg | subLImm | subLReg | negL | incL | decL | mulxuW | mulxsW | extsL | extuL
  | andLImm | andLReg | orLImm | orLReg | xorLImm | xorLReg | notL | shalL | sharL | shllL | shlrL | rotlL | rotrL
  | rotxlL | rotxrL => exact hP.modifyL hs h
  | divxuW => exact hP.modifyL (hP.drawn 1 hs) h
  | divxsW => exact hP.modifyL (hP.drawn 2 hs) h
  | cmpBImm | cmpBReg | cmpWImm | cmpWReg | cmpLImm | cmpLReg => exact hP.compare hs h
  | adds | subs => cases h; exact hP.advance 2 (hP.setReg32 _ _ hs)
  | movBLoadInd | movBLoadDisp16 | movBLoadDisp24 | movBLoadPostInc | movBLoadAbs8 | movBLoadAbs16 | movBLoadAbs24 =>
    exact hP.loadB hs h
  | movWLoadInd | movWLoadDisp16 | movWLoadDisp24 | movWLoadPostInc | movWLoadAbs16 | movWLoadAbs24 | popW =>
    exact hP.loadW hs h
  | movLLoadInd | movLLoadDisp16 | movLLoadDisp24 | movLLoadPostInc | movLLoadAbs16 | movLLoadAbs24 | popL =>
    exact hP.loadL hs h
  | movBStoreInd | movBStoreDisp16 | movBStoreDisp24 | movBStorePreDec | movBStoreAbs8 | movBStoreAbs16
  | movBStoreAbs24 => exact hP.storeB hs h
  | movWStoreInd | movWStoreDisp16 | movWStoreDisp24 | movWStorePreDec | movWStoreAbs16 | movWStoreAbs24 | pushW =>
    exact hP.storeW hs h
  | movLStoreInd | movLStoreDisp16 | movLStoreDisp24 | movLStorePreDec | movLStoreAbs16 | movLStoreAbs24 | pushL =>
    exact hP.storeL hs h
  | movfpe | movtpe => cases h
  | bsetImmReg | bsetImmInd | bsetImmAbs8 | bsetRegReg | bsetRegInd | bsetRegAbs8 | bclrImmReg | bclrImmInd
  | bclrImmAbs8 | bclrRegReg | bclrRegInd | bclrRegAbs8 | bnotImmReg | bnotImmInd | bnotImmAbs8 | bnotRegReg
  | bnotRegInd | bnotRegAbs8 | bstReg | bstInd | bstAbs8 | bistReg | bistInd | bistAbs8 =>
    unfold Machine.exec at h
    exact hP.modifyBit hs h
  | btstImmReg | btstImmInd | btstImmAbs8 | btstRegReg | btstRegInd | btstRegAbs8 | bandReg | bandInd | bandAbs8
  | biandReg | biandInd | biandAbs8 | borReg | borInd | borAbs8 | biorReg | biorInd | biorAbs8 | bxorReg | bxorInd
  | bxorAbs8 | bixorReg | bixorInd | bixorAbs8 | bldReg | bldInd | bldAbs8 | bildReg | bildInd | bildAbs8 =>
    unfold Machine.exec at h
    exact hP.testBit hs h
  | bra | brn | bhi | bls | bcc | bcs | bne | beq | bvc | bvs | bpl | bmi | bge | blt | bgt | ble =>
    exact hP.branch hs h
  | jmpInd | jmpAbs24 => cases h; exact hP.setPc s _ hs
  | jmpMemInd aa =>
    exact (hP.readLong_bind hs fun v s1 h1 => ⟨fun t h => by cases h; exact hP.setPc s1 _ h1, fun t h => by cases h⟩).finish
      hP.abandon h
  | bsr8 | bsr16 | jsrInd | jsrAbs24 => exact (hP.callSubroutine _ _ hs).finish hP.abandon h
  | jsrMemInd aa => exact (hP.readLong_bind hs fun v s1 h1 => hP.callSubroutine 2 _ h1).finish hP.abandon h
  | rts => exact hP.rts hs h
  | trapa vec => exact (hP.takeException _ _ _ hs).finish hP.abandon h
  | rte => exact (hP.returnFromException hs).finish hP.abandon h
  | sleep => cases h; exact hP.powerDown _ (hP.advance 2 hs)
  | ldcImm | ldcReg | andc | orc | xorc => exact hP.writeCcr hs h
  | ldcInd | ldcDisp16 | ldcDisp24 | ldcPostInc | ldcAbs16 | ldcAbs24 => exact hP.loadCcr hs h
  | stcReg rd => cases h; exact hP.advance 2 (hP.setReg8 rd _ hs)
  | stcInd | stcDisp16 | stcDisp24 | stcPreDec | stcAbs16 | stcAbs24 => exact hP.storeCcr hs h
  | nop => cases h; exact hP.advance 2 hs
  | eepmovB => exact (hP.eepmovB 4 hs).finish hP.abandon h
  | eepmovW => exact (hP.eepmovW 4 hs).finish hP.abandon h

end Robust

end Sys2Proof.Machine

/-! SUPPORT. What every step keeps: the invariant, and that a falling RES is not forgotten (R371, R406). -/

namespace Sys2Proof.Machine

/-- A property of states that every part of a step keeps, once the pins have been sampled. -/
structure Lasting (P : State → Prop) : Prop extends Robust P where
  acknowledge : ∀ s r, P s → P (s.acknowledge r)
  resume : ∀ s, P s → P (s.setPstate .program)
  enterReset : ∀ s, P s → P s.enterReset
  enterHardwareStandby : ∀ s, P s → P s.enterHardwareStandby
  initialise : ∀ s, P s → P ((s.initialiseControl.scrambleRegisters.scrambleRam.setI).holdOff.setPstate .program)

/-- The fetch is never abandoned: it only reads (R406). -/
theorem fetchWords_not_abandoned (k : Nat) (a : Addr) (s t : State) :
    (State.fetchWords k a s).2 ≠ some (.abandoned t) := by
  induction k generalizing a s with
  | zero => simp [State.fetchWords]
  | succ k ih =>
    unfold State.fetchWords
    split
    · rename_i why hw
      exact fun h => readWord_not_abandoned s t a (by rw [hw, Option.some.inj h])
    · exact ih _ _

theorem fetch_not_abandoned (s t : State) : s.fetch ≠ .error (.abandoned t) := by
  have hf := fetchWords_not_abandoned (maxLength / 2) (evenAddr s.pc) s t
  unfold State.fetch
  simp only
  split
  · simp
  · cases hw : (State.fetchWords (maxLength / 2) (evenAddr s.pc) s).2 with
    | none => simp
    | some why => rw [hw] at hf; simpa using hf
  · simp
  · simp

theorem Lasting.enterInterrupt {P : State → Prop} (hP : Lasting P) {s : State} (r : Source) (hs : P s) :
    Keeps P (s.enterInterrupt r) :=
  hP.takeException 0 r.vector s.pc (hP.resume _ (hP.acknowledge s r hs))

/-- What every part of a step keeps, a step keeps. -/
theorem Lasting.sampledStep {P : State → Prop} (hP : Lasting P) {s t : State} (hs : P s)
    (h : s.sampledStep = .next t) : P t := by
  rcases sampledStep_next h with ⟨-, -, h⟩ | ⟨r, -, h⟩ | rfl | rfl | rfl | rfl | ⟨-, h⟩
  · rcases runInstruction_next h with ⟨i, s1, hf, he⟩ | ⟨s1, hf⟩
    · obtain ⟨rest, -, rfl⟩ := fetch_ok hf
      exact hP.exec (hP.hold _ false (hP.afterFetch _ _ hs)) he
    · exact absurd hf (fetch_not_abandoned s s1)
  · exact (hP.enterInterrupt r hs).finish hP.abandon h
  · exact hs
  · exact hP.resume s hs
  · exact hP.enterReset s hs
  · exact hP.enterHardwareStandby s hs
  · exact (hP.vectorTo 0 (hP.initialise s hs)).finish hP.abandon h

/-! ### The invariant -/

/-- Two bytes are equal where their bits are. -/
theorem byte_and_eq_zero {x y : Byte} : x &&& y = 0#8 ↔ ∀ i, i < 8 → (x.getLsbD i && y.getLsbD i) = false := by
  constructor
  · intro h i _
    rw [← BitVec.getLsbD_and, h, BitVec.getLsbD_zero]
  · intro h
    apply BitVec.eq_of_getLsbD_eq
    intro i hi
    rw [BitVec.getLsbD_and, h i hi, BitVec.getLsbD_zero]

/-- A write to ISR sets no flag, and leaves the record within the flags (R55). -/
theorem clearedIsr_inv {isr read : Byte} (v : Byte) (hi : isr &&& 0xCC#8 = 0#8) (hr : read &&& ~~~isr = 0#8) :
    clearedIsr isr read v &&& 0xCC#8 = 0#8 ∧ (read &&& v) &&& ~~~(clearedIsr isr read v) = 0#8 := by
  rw [byte_and_eq_zero] at hi hr
  constructor <;> rw [byte_and_eq_zero] <;> intro i h8
  · have := hi i h8
    simp only [clearedIsr, BitVec.getLsbD_and]
    generalize isr.getLsbD i = x, (v ||| ~~~read).getLsbD i = y, (0xCC#8).getLsbD i = z at this ⊢
    decide +revert
  · have := hr i h8
    simp only [clearedIsr, BitVec.getLsbD_and, BitVec.getLsbD_or, BitVec.getLsbD_not, h8, decide_true,
      Bool.true_and] at this ⊢
    generalize isr.getLsbD i = x, read.getLsbD i = y, v.getLsbD i = z at this ⊢
    decide +revert

theorem writeReg_inv {s : State} (r : IoReg) (v : Byte) (h : Inv s) : Inv (s.writeReg r v) := by
  cases r with
  | syscr => exact { h with syscr := by simp [State.writeReg] }
  | isr =>
    obtain ⟨h1, h2⟩ := clearedIsr_inv v h.isr h.isrRead
    exact { h with isr := h1, isrRead := h2 }
  | mdcr | iscr | ier | ipra | iprb => exact { h with }

theorem writeByte_inv {s t : State} {a : Addr} {v : Byte} (h : Inv s) (hw : s.writeByte a v = .ok t) : Inv t := by
  rcases writeByte_ok hw with ⟨k, -, rfl⟩ | ⟨-, rfl⟩ | ⟨w, -, rfl⟩ | ⟨r, -, rfl⟩
  · exact { h with mem := Memory.wf_write k v h.mem }
  · exact h
  · exact { h with }
  · exact writeReg_inv r v h

/-- Noting a read keeps the record within the flags (R55). -/
theorem noteRead_inv {s : State} (a : Addr) (h : Inv s) : Inv (s.noteRead a) := by
  unfold State.noteRead
  split
  · refine { h with isrRead := byte_and_eq_zero.mpr fun i h8 => ?_ }
    have := byte_and_eq_zero.mp h.isrRead i h8
    simp only [BitVec.getLsbD_or, BitVec.getLsbD_not, h8, decide_true, Bool.true_and] at this ⊢
    generalize s.isr.getLsbD i = x, s.isrRead.getLsbD i = y at this ⊢
    decide +revert
  all_goals exact { h with }

/-- After a reset of the modules no flag is set and no module requests anything. -/
theorem resetModules_inv {s : State} (ports : Bool) (h : Inv s) : Inv (s.resetModules ports) :=
  { h with
    mem := resetModules_wf ports h.mem
    isr := BitVec.zero_and
    isrRead := BitVec.zero_and
    quiet := fun _ => rfl }

theorem initialiseControl_inv {s : State} (h : Inv s) : Inv s.initialiseControl :=
  { resetModules_inv true h with
    syscr := by rw [State.initialiseControl_syscr]; decide
    quiet := fun _ => rfl }

theorem powerDown_inv {s : State} (h : Inv s) : Inv s.powerDown := by
  unfold State.powerDown
  split
  · exact { resetModules_inv false h with quiet := fun _ => rfl }
  · exact { h with quiet := fun hp => by simp [State.setPstate] at hp }

theorem enterReset_inv {s : State} (h : Inv s) : Inv s.enterReset :=
  { initialiseControl_inv h with quiet := fun _ => rfl }

theorem resume_inv {s : State} (h : Inv s) : Inv (s.setPstate .program) :=
  { h with quiet := fun hp => by simp [State.setPstate] at hp }

theorem withBit_false_getLsbD (v : Byte) (l : IrqLine) (i : Nat) :
    (withBit v l.bit false).getLsbD i = (!decide (i = l.bit) && v.getLsbD i) := by
  have hl : l.bit < 8 := by cases l <;> decide
  have hb := withBit_getLsbD v ⟨l.bit, hl⟩ false i
  simp only at hb
  rw [hb]
  split <;> simp_all

/-- Taking an edge-sensed request clears its flag and its record (R383). -/
theorem acknowledge_inv {s : State} (r : Source) (h : Inv s) : Inv (s.acknowledge r) := by
  cases r with
  | nmi => exact { h with }
  | internal m => exact h
  | irq l =>
    unfold State.acknowledge
    simp only
    split
    · refine { h with isr := byte_and_eq_zero.mpr fun i h8 => ?_, isrRead := byte_and_eq_zero.mpr fun i h8 => ?_ }
      · have := byte_and_eq_zero.mp h.isr i h8
        rw [withBit_false_getLsbD]
        generalize s.isr.getLsbD i = x, decide (i = l.bit) = y, (0xCC#8).getLsbD i = z at this ⊢
        decide +revert
      · have := byte_and_eq_zero.mp h.isrRead i h8
        simp only [BitVec.getLsbD_not, withBit_false_getLsbD, h8, decide_true, Bool.true_and] at this ⊢
        generalize s.isr.getLsbD i = x, decide (i = l.bit) = y, s.isrRead.getLsbD i = z at this ⊢
        decide +revert
    · exact h

/-- Sampling sets flags of the four lines only, and drops the record of a flag that is no longer set (R55, R383). -/
theorem samplePins_inv {s : State} (h : Inv s) : Inv s.samplePins := by
  refine { h with isr := byte_and_eq_zero.mpr fun i h8 => ?_, isrRead := byte_and_eq_zero.mpr fun i h8 => ?_ }
  · have hm : i = 0 ∨ i = 1 ∨ i = 4 ∨ i = 5 ∨ (i ≠ 0 ∧ i ≠ 1 ∧ i ≠ 4 ∧ i ≠ 5) := by omega
    rcases hm with rfl | rfl | rfl | rfl | ⟨h0, h1, h4, h5⟩
    · simp
    · simp
    · simp
    · simp
    · rw [samplePins_isr, sampledIsr_getLsbD, if_neg h5, if_neg h4, if_neg h1, if_neg h0]
      exact byte_and_eq_zero.mp h.isr i h8
  · simp only [samplePins_isr, samplePins_isrRead, BitVec.getLsbD_and, BitVec.getLsbD_not]
    cases s.sampledIsr.getLsbD i <;> simp

theorem inv_lasting : Lasting Inv where
  counted _ h := { h with }
  call _ _ _ _ h := { h with }
  write _ _ _ _ h hw := writeByte_inv h hw
  cpu _ _ _ _ h := { h with }
  setPc _ a h := { h with pc := evenAddr_bit0 a }
  noteRead _ a h := noteRead_inv a h
  callRead _ _ _ _ h := { h with }
  hold _ _ h := { h with }
  powerDown _ h := powerDown_inv h
  nmi _ h := { h with }
  abandon _ h := { enterReset_inv h with }
  acknowledge _ r h := acknowledge_inv r h
  resume _ h := resume_inv h
  enterReset _ h := enterReset_inv h
  enterHardwareStandby _ h := { initialiseControl_inv h with quiet := fun _ => rfl }
  initialise _ h :=
    { initialiseControl_inv h with
      mem := freeCells_wf _ _ _ (initialiseControl_inv h).mem
      quiet := fun _ => rfl }

theorem resFalls_inv {s : State} (h : Inv s) : Inv s.resFalls := by
  unfold State.resFalls
  split
  · exact { h with }
  · exact h

/-- Settles O7: the values of reset, one by one. -/
theorem resetInvariant : Obligations.ResetInvariant :=
  ⟨reset_wf, rfl, rfl, rfl, rfl, fun _ => rfl⟩

/-- Settles O8: every part of a step keeps the invariant. -/
theorem stepKeepsInvariant : Obligations.StepKeepsInvariant := by
  intro s t hs h
  obtain ⟨u, hu, rfl⟩ := step_next h
  exact resFalls_inv (inv_lasting.sampledStep (samplePins_inv hs) hu)

/-! ### A falling RES -/

/-- RES is to go low in this step, or it is low. -/
def ResFell (s : State) : Prop := s.resDuring = none → s.resLow = true

theorem resFell_writeReg {s : State} (r : IoReg) (v : Byte) (h : ResFell s) : ResFell (s.writeReg r v) := by
  cases r <;> exact h

theorem resFell_lasting : Lasting ResFell where
  counted s h := fun hn => h (by simpa using hn)
  call _ _ _ _ h := h
  write s t a v h hw := by
    rcases writeByte_ok hw with ⟨k, -, rfl⟩ | ⟨-, rfl⟩ | ⟨w, -, rfl⟩ | ⟨r, -, rfl⟩
    · exact h
    · exact h
    · exact h
    · exact resFell_writeReg r v h
  cpu _ _ _ _ h := h
  setPc _ _ h := h
  noteRead s a h := by
    obtain ⟨r, d, c, k, e⟩ := noteRead_eq s a
    rw [e]
    exact h
  callRead _ _ _ _ h := h
  hold _ _ h := h
  powerDown s h := by
    unfold State.powerDown
    split <;> exact h
  nmi _ h := h
  abandon _ _ := fun _ => rfl
  acknowledge s r h := by
    obtain ⟨n, i, j, e⟩ := acknowledge_eq s r
    rw [e]
    exact h
  resume _ h := h
  enterReset _ h := h
  enterHardwareStandby _ h := h
  initialise _ h := h

/-- At the end of a step RES is low where it was to go low. -/
theorem resFalls_low {s : State} (h : ResFell s) : s.resFalls.resLow = true ∧ s.resFalls.resDuring = none := by
  unfold State.resFalls
  cases hr : s.resDuring with
  | none => simp [h hr, hr]
  | some k => simp

/-- Whatever a step answers, RES is low after it where it went low during it (R371, R406). -/
theorem step_resLow {s t : State} (hs : s.resDuring ≠ none) (h : step s = .next t) :
    t.resLow = true ∧ t.resDuring = none := by
  obtain ⟨u, hu, rfl⟩ := step_next h
  exact resFalls_low (resFell_lasting.sampledStep (s := s.samplePins) (fun hn => absurd hn hs) hu)

end Sys2Proof.Machine

/-! SUPPORT. The encoder and the decoder undo each other (30_encoding.md). -/

namespace Sys2Proof

/-! ### Fields, read and written back (R113 to R118) -/

@[simp] theorem Reg8.nibble_ofNibble (f : Nibble) : (Reg8.ofNibble f).nibble = f := by revert f; decide
@[simp] theorem Reg16.nibble_ofNibble (f : Nibble) : (Reg16.ofNibble f).nibble = f := by revert f; decide
theorem RegNum.low_ofNibble {f : Nibble} (h : f.toNat < 8) : (RegNum.ofNibble f).low = f := by revert f; decide
theorem RegNum.high_ofNibble {f : Nibble} (h : ¬f.toNat < 8) : (RegNum.ofNibble f).high = f := by revert f; decide
theorem bitLow_bitOf {f : Nibble} (h : f.toNat < 8) : bitLow (bitOf f) = f := by revert f; decide
theorem bitHigh_bitOf {f : Nibble} (h : ¬f.toNat < 8) : bitHigh (bitOf f) = f := by revert f; decide
@[simp] theorem nibbles8_byteOf (a b : Nibble) : nibbles8 (byteOf a b) = [a, b] := by revert a b; decide

/-- The low three bits of a nibble are those of ER7 in two nibbles only. -/
theorem RegNum.ofNibble_eq_seven {f : Nibble} : RegNum.ofNibble f = 7 ↔ f.toNat = 7 ∨ f.toNat = 15 := by
  revert f; decide

@[simp] theorem nibbles24_addrOf (a b c d e f : Nibble) : nibbles24 (addrOf a b c d e f) = [a, b, c, d, e, f] := by
  have h := toNat_join24 a b c d e f
  rw [nibbles24_eq]
  simp only [List.cons.injEq, and_true]
  refine ⟨?_, ?_, ?_, ?_, ?_, ?_⟩ <;> refine BitVec.eq_of_toNat_eq ?_ <;>
    simp only [addrOf, BitVec.extractLsb'_toNat, Nat.shiftRight_eq_div_pow, h] <;> omega

theorem nibbles16_join (a b c d : Nibble) : nibbles16 (a ++ b ++ c ++ d : BitVec 16) = [a, b, c, d] := by
  have h := toNat_join16 a b c d
  simp only [nibbles16, nibbles8, List.cons_append, List.nil_append, List.cons.injEq, and_true]
  refine ⟨?_, ?_, ?_, ?_⟩ <;> refine BitVec.eq_of_toNat_eq ?_ <;>
    simp only [BitVec.extractLsb'_toNat, Nat.shiftRight_eq_div_pow, h] <;> omega

theorem nibbles32_join (a b c d e f g h : Nibble) :
    nibbles32 (a ++ b ++ c ++ d ++ e ++ f ++ g ++ h : BitVec 32) = [a, b, c, d, e, f, g, h] := by
  have hj := toNat_join32 a b c d e f g h
  simp only [nibbles32, nibbles16, nibbles8, List.cons_append, List.nil_append, List.cons.injEq, and_true]
  refine ⟨?_, ?_, ?_, ?_, ?_, ?_, ?_, ?_⟩ <;> refine BitVec.eq_of_toNat_eq ?_ <;>
    simp only [BitVec.extractLsb'_toNat, Nat.shiftRight_eq_div_pow, hj] <;> omega

/-! ### What a decoder reads is what stands there -/

/-- A result of the decoder is sound for a run of nibbles: an instruction it gives is well-formed and stands, encoded, at
the head of the run. -/
def Sound (x : DecodeResult Instr) (ns : List Nibble) : Prop :=
  ∀ i, x = .ok i → encodeNibbles i <+: ns ∧ i.wellFormed = true

@[simp] theorem sound_ok {i : Instr} {ns : List Nibble} :
    Sound (.ok i) ns ↔ encodeNibbles i <+: ns ∧ i.wellFormed = true := by
  simp [Sound]

@[simp] theorem sound_pure {i : Instr} {ns : List Nibble} :
    Sound (pure i) ns ↔ encodeNibbles i <+: ns ∧ i.wellFormed = true := sound_ok

@[simp] theorem sound_error (e : DecodeError) (ns : List Nibble) : Sound (.error e) ns := by
  simp [Sound]

@[simp] theorem sound_bind {α : Type} {x : DecodeResult α} {f : α → DecodeResult Instr} {ns : List Nibble} :
    Sound (x >>= f) ns ↔ ∀ a, x = .ok a → Sound (f a) ns := by
  cases x <;> simp [Sound, bind, Except.bind]

@[simp] theorem sound_map {α : Type} {x : DecodeResult α} {f : α → Instr} {ns : List Nibble} :
    Sound (f <$> x) ns ↔ ∀ a, x = .ok a → encodeNibbles (f a) <+: ns ∧ (f a).wellFormed = true := by
  cases x <;> simp [Sound, Functor.map, Except.map]

@[simp] theorem lowReg_eq_ok {f : Nibble} {r : RegNum} : lowReg f = .ok r ↔ f = r.low := by revert f r; decide

@[simp] theorem lowBit_eq_ok {f : Nibble} {b : BitVec 3} : lowBit f = .ok b ↔ f = bitLow b := by revert f b; decide

@[simp] theorem zeroNibble_eq_ok {f : Nibble} {u : Unit} : zeroNibble f = .ok u ↔ f = 0#4 := by revert f u; decide

@[simp] theorem wordField_eq_ok {ns : List Nibble} {v : BitVec 16} : wordField ns = .ok v ↔ nibbles16 v <+: ns := by
  constructor
  · unfold wordField
    split
    · rintro ⟨⟩
      rw [nibbles16_join]
      exact ⟨_, rfl⟩
    · rintro ⟨⟩
  · rintro ⟨rest, rfl⟩
    exact wordField_nibbles16 v rest

@[simp] theorem longField_eq_ok {ns : List Nibble} {v : BitVec 32} : longField ns = .ok v ↔ nibbles32 v <+: ns := by
  constructor
  · unfold longField
    split
    · rintro ⟨⟩
      rw [nibbles32_join]
      exact ⟨_, rfl⟩
    · rintro ⟨⟩
  · rintro ⟨rest, rfl⟩
    exact longField_nibbles32 v rest

@[simp] theorem paddedField_eq_ok {ns : List Nibble} {v : BitVec 24} :
    paddedField ns = .ok v ↔ 0#4 :: 0#4 :: nibbles24 v <+: ns := by
  constructor
  · unfold paddedField
    split
    · split
      · rename_i z y a b c d e f rest h
        rintro ⟨⟩
        obtain ⟨hz, hy⟩ := h
        rw [nibbles24_addrOf, show z = 0#4 from BitVec.eq_of_toNat_eq hz, show y = 0#4 from BitVec.eq_of_toNat_eq hy]
        exact ⟨rest, rfl⟩
      · rintro ⟨⟩
    · rintro ⟨⟩
  · rintro ⟨rest, rfl⟩
    exact paddedField_nibbles24 v rest

end Sys2Proof

namespace Sys2Proof

/-! ### Each map of the decoder is sound (R119 to R123) -/

/-- First byte 79. -/
theorem decodeWordImm_sound (op f : Nibble) (rest : List Nibble) :
    Sound (decodeWordImm op f rest) (7#4 :: 9#4 :: op :: f :: rest) := by
  unfold decodeWordImm
  split <;> simp_all [encodeNibbles, Instr.wellFormed, BitVec.toNat_eq]

/-- First byte 7A. -/
theorem decodeLongImm_sound (op f : Nibble) (rest : List Nibble) :
    Sound (decodeLongImm op f rest) (7#4 :: 10#4 :: op :: f :: rest) := by
  unfold decodeLongImm
  rw [sound_bind]
  rintro r hr
  split <;> simp_all [encodeNibbles, Instr.wellFormed, BitVec.toNat_eq]

/-- First bytes 10 to 13. -/
theorem decodeShift_sound (op sz f : Nibble) (rest : List Nibble) :
    Sound (decodeShift op sz f) (1#4 :: op :: sz :: f :: rest) := by
  unfold decodeShift
  split <;> simp_all [encodeNibbles, Instr.wellFormed, BitVec.toNat_eq]

/-- First byte 17. -/
theorem decodeUnary_sound (op f : Nibble) (rest : List Nibble) :
    Sound (decodeUnary op f) (1#4 :: 7#4 :: op :: f :: rest) := by
  unfold decodeUnary
  split <;> simp_all [encodeNibbles, Instr.wellFormed, BitVec.toNat_eq]

/-- First byte 0B. -/
theorem decodeAddsInc_sound (op f : Nibble) (rest : List Nibble) :
    Sound (decodeAddsInc op f) (0#4 :: 11#4 :: op :: f :: rest) := by
  unfold decodeAddsInc
  split <;> simp_all [encodeNibbles, Instr.wellFormed, BitVec.toNat_eq]

/-- First byte 1B. -/
theorem decodeSubsDec_sound (op f : Nibble) (rest : List Nibble) :
    Sound (decodeSubsDec op f) (1#4 :: 11#4 :: op :: f :: rest) := by
  unfold decodeSubsDec
  split <;> simp_all [encodeNibbles, Instr.wellFormed, BitVec.toNat_eq]

/-- First bytes 0A, 0F, 1A, 1F. -/
theorem decodeByteOrLong_sound {byteForm : Reg8 → Instr} {longForm : RegNum → RegNum → Instr} {a b : Nibble}
    (hb : ∀ r, encodeNibbles (byteForm r) = [a, b, 0#4, r.nibble] ∧ (byteForm r).wellFormed = true)
    (hl : ∀ q r, encodeNibbles (longForm q r) = [a, b, q.high, r.low] ∧ (longForm q r).wellFormed = true)
    (c d : Nibble) (rest : List Nibble) :
    Sound (decodeByteOrLong byteForm longForm c d) (a :: b :: c :: d :: rest) := by
  unfold decodeByteOrLong
  split
  · simp_all [BitVec.toNat_eq]
  · split
    · simp
    · simp_all [RegNum.high_ofNibble]

/-- After the leading word 01 00. -/
theorem decodeMovL_sound (ns : List Nibble) : Sound (decodeMovL ns) (0#4 :: 1#4 :: 0#4 :: 0#4 :: ns) := by
  unfold decodeMovL
  split
  · rename_i a b c d rest
    split
    · rw [sound_bind]
      rintro r hr
      split <;>
        simp_all [encodeNibbles, Instr.wellFormed, BitVec.toNat_eq, RegNum.low_ofNibble, RegNum.high_ofNibble]
    · rw [sound_bind]
      rintro r hr
      rw [sound_bind]
      rintro disp hd
      split <;>
        simp_all [encodeNibbles, Instr.wellFormed, BitVec.toNat_eq, RegNum.low_ofNibble, RegNum.high_ofNibble]
    · rw [sound_bind]
      rintro r hr
      split
      · split <;> simp_all [encodeNibbles, Instr.wellFormed, BitVec.toNat_eq, RegNum.low_ofNibble, RegNum.ofNibble_eq_seven]
        omega
      · split <;> simp_all [encodeNibbles, Instr.wellFormed, BitVec.toNat_eq, RegNum.high_ofNibble, RegNum.ofNibble_eq_seven]
        omega
    · rw [sound_bind]
      rintro r hr
      split <;> simp_all [encodeNibbles, Instr.wellFormed, BitVec.toNat_eq]
    · rw [sound_bind]
      rintro u hu
      split
      · split
        · rw [sound_bind]
          rintro r hr
          simp_all [encodeNibbles, Instr.wellFormed, BitVec.toNat_eq]
        · rw [sound_bind]
          rintro disp hd
          split
          · simp
          · simp_all [encodeNibbles, Instr.wellFormed, BitVec.toNat_eq, RegNum.high_ofNibble]
        · simp
      · simp
    · simp
  · simp

end Sys2Proof

namespace Sys2Proof

/-- After the leading word 01 40. -/
theorem decodeCcrMemory_sound (ns : List Nibble) :
    Sound (decodeCcrMemory ns) (0#4 :: 1#4 :: 4#4 :: 0#4 :: ns) := by
  unfold decodeCcrMemory
  split
  · rename_i a b c d rest
    rw [sound_bind]
    rintro u hd
    split
    · split <;>
        simp_all [encodeNibbles, Instr.wellFormed, BitVec.toNat_eq, RegNum.low_ofNibble, RegNum.high_ofNibble]
    · rw [sound_bind]
      rintro disp hw
      split <;>
        simp_all [encodeNibbles, Instr.wellFormed, BitVec.toNat_eq, RegNum.low_ofNibble, RegNum.high_ofNibble]
    · split <;>
        simp_all [encodeNibbles, Instr.wellFormed, BitVec.toNat_eq, RegNum.low_ofNibble, RegNum.high_ofNibble]
    · split <;> simp_all [encodeNibbles, Instr.wellFormed, BitVec.toNat_eq]
    · rw [sound_bind]
      rintro r hr
      split
      · rw [sound_bind]
        rintro v hv
        split <;> simp_all [encodeNibbles, Instr.wellFormed, BitVec.toNat_eq]
      · simp
    · simp
  · simp

/-- After the leading word 01 C0. -/
theorem decodeMulxs_sound (ns : List Nibble) : Sound (decodeMulxs ns) (0#4 :: 1#4 :: 12#4 :: 0#4 :: ns) := by
  unfold decodeMulxs
  split
  · split <;> simp_all [encodeNibbles, Instr.wellFormed, BitVec.toNat_eq]
  · simp

/-- After the leading word 01 D0. -/
theorem decodeDivxs_sound (ns : List Nibble) : Sound (decodeDivxs ns) (0#4 :: 1#4 :: 13#4 :: 0#4 :: ns) := by
  unfold decodeDivxs
  split
  · split <;> simp_all [encodeNibbles, Instr.wellFormed, BitVec.toNat_eq]
  · simp

/-- After the leading word 01 F0. -/
theorem decodeLogicL_sound (ns : List Nibble) : Sound (decodeLogicL ns) (0#4 :: 1#4 :: 15#4 :: 0#4 :: ns) := by
  unfold decodeLogicL
  split
  · split <;> simp_all [encodeNibbles, Instr.wellFormed, BitVec.toNat_eq]
  · simp

/-- A nibble is the number it holds. -/
theorem nibble_eq {f : Nibble} {k : Nat} (h : f.toNat = k) : f = BitVec.ofNat 4 k := by
  rw [← h, BitVec.ofNat_toNat, BitVec.setWidth_eq]

/-- First byte 01. -/
theorem decodePrefixed_sound (c d : Nibble) (rest : List Nibble) :
    Sound (decodePrefixed c d rest) (0#4 :: 1#4 :: c :: d :: rest) := by
  unfold decodePrefixed
  rw [sound_bind]
  rintro u hd
  obtain rfl := zeroNibble_eq_ok.mp hd
  split
  all_goals try (obtain rfl := nibble_eq (by assumption))
  · exact decodeMovL_sound rest
  · exact decodeCcrMemory_sound rest
  · simp_all [encodeNibbles, Instr.wellFormed]
  · exact decodeMulxs_sound rest
  · exact decodeDivxs_sound rest
  · exact decodeLogicL_sound rest
  · simp

/-- First bytes 00 to 0F. -/
theorem decodeRow0_sound (b c d : Nibble) (rest : List Nibble) :
    Sound (decodeRow0 b c d rest) (0#4 :: b :: c :: d :: rest) := by
  have hb : b.toNat < 16 := b.isLt
  unfold decodeRow0
  split
  case h_2 h => obtain rfl := nibble_eq h; exact decodePrefixed_sound c d rest
  case h_11 h =>
    obtain rfl := nibble_eq h
    exact decodeByteOrLong_sound (fun _ => ⟨rfl, rfl⟩) (fun _ _ => ⟨rfl, rfl⟩) c d rest
  case h_12 h => obtain rfl := nibble_eq h; exact decodeAddsInc_sound c d rest
  case h_16 =>
    simp only [imp_false] at *
    obtain rfl := nibble_eq (f := b) (k := 15) (by omega)
    exact decodeByteOrLong_sound (fun _ => ⟨rfl, rfl⟩) (fun _ _ => ⟨rfl, rfl⟩) c d rest
  all_goals simp_all [encodeNibbles, Instr.wellFormed, BitVec.toNat_eq]

/-- First bytes 10 to 1F. -/
theorem decodeRow1_sound (b c d : Nibble) (rest : List Nibble) :
    Sound (decodeRow1 b c d) (1#4 :: b :: c :: d :: rest) := by
  have hb : b.toNat < 16 := b.isLt
  unfold decodeRow1
  split
  case h_1 | h_2 | h_3 | h_4 => exact decodeShift_sound b c d rest
  case h_8 h => obtain rfl := nibble_eq h; exact decodeUnary_sound c d rest
  case h_11 h =>
    obtain rfl := nibble_eq h
    exact decodeByteOrLong_sound (fun _ => ⟨rfl, rfl⟩) (fun _ _ => ⟨rfl, rfl⟩) c d rest
  case h_12 h => obtain rfl := nibble_eq h; exact decodeSubsDec_sound c d rest
  case h_16 =>
    simp only [imp_false] at *
    obtain rfl := nibble_eq (f := b) (k := 15) (by omega)
    exact decodeByteOrLong_sound (fun _ => ⟨rfl, rfl⟩) (fun _ _ => ⟨rfl, rfl⟩) c d rest
  all_goals simp_all [encodeNibbles, Instr.wellFormed, BitVec.toNat_eq]

/-- The condition field of a branch is the one its instruction is encoded with (R118). -/
theorem decodeBcc_sound (cc : Nibble) (d : BranchDisp) (rest : List Nibble) :
    Sound (.ok (decodeBcc cc d)) (match d with
      | .d8 p => 4#4 :: cc :: nibbles8 p ++ rest
      | .d16 p => 5#4 :: 8#4 :: cc :: 0#4 :: nibbles16 p ++ rest) := by
  have hc : cc.toNat < 16 := cc.isLt
  rw [sound_ok]
  unfold decodeBcc
  split
  case h_16 =>
    simp only [imp_false] at *
    obtain rfl := nibble_eq (f := cc) (k := 15) (by omega)
    cases d <;> simp [encodeNibbles, Instr.wellFormed]
  all_goals
    obtain rfl := nibble_eq (by assumption)
    cases d <;> simp [encodeNibbles, Instr.wellFormed]


/-- First bytes 50 to 5F. -/
theorem decodeRow5_sound (b c d : Nibble) (rest : List Nibble) :
    Sound (decodeRow5 b c d rest) (5#4 :: b :: c :: d :: rest) := by
  have hb : b.toNat < 16 := b.isLt
  unfold decodeRow5
  split
  case h_5 | h_7 => split <;> simp_all [encodeNibbles, Instr.wellFormed, BitVec.toNat_eq]
  case h_8 =>
    rw [sound_bind]
    rintro u hd
    split <;> simp_all [encodeNibbles, Instr.wellFormed, BitVec.toNat_eq]
    omega
  case h_9 h =>
    obtain rfl := nibble_eq h
    rw [sound_bind]
    rintro u hd
    rw [zeroNibble_eq_ok] at hd
    subst hd
    rw [sound_bind]
    rintro disp hw
    obtain ⟨rest, rfl⟩ := wordField_eq_ok.mp hw
    exact decodeBcc_sound c (.d16 disp) rest
  case h_11 | h_15 => split <;> simp_all [encodeNibbles, Instr.wellFormed, BitVec.toNat_eq]
  case h_16 =>
    simp only [imp_false] at *
    obtain rfl := nibble_eq (f := b) (k := 15) (by omega)
    simp [encodeNibbles, Instr.wellFormed]
  all_goals simp_all [encodeNibbles, Instr.wellFormed, BitVec.toNat_eq]

/-- First byte 6A, second level. -/
theorem decodeMovBAbs_sound (c d : Nibble) (rest : List Nibble) :
    Sound (decodeMovBAbs c d rest) (6#4 :: 10#4 :: c :: d :: rest) := by
  unfold decodeMovBAbs
  split <;> simp_all [encodeNibbles, Instr.wellFormed, BitVec.toNat_eq]

/-- First byte 6B, second level. -/
theorem decodeMovWAbs_sound (c d : Nibble) (rest : List Nibble) :
    Sound (decodeMovWAbs c d rest) (6#4 :: 11#4 :: c :: d :: rest) := by
  unfold decodeMovWAbs
  split <;> simp_all [encodeNibbles, Instr.wellFormed, BitVec.toNat_eq]

/-- First bytes 60 to 6F. -/
theorem decodeRow6_sound (b c d : Nibble) (rest : List Nibble) :
    Sound (decodeRow6 b c d rest) (6#4 :: b :: c :: d :: rest) := by
  have hb : b.toNat < 16 := b.isLt
  unfold decodeRow6
  split
  case h_8 | h_9 | h_10 | h_13 =>
    split <;>
      simp_all [encodeNibbles, Instr.wellFormed, BitVec.toNat_eq, RegNum.low_ofNibble, RegNum.high_ofNibble,
        bitLow_bitOf, bitHigh_bitOf]
  case h_11 h => obtain rfl := nibble_eq h; exact decodeMovBAbs_sound c d rest
  case h_12 h => obtain rfl := nibble_eq h; exact decodeMovWAbs_sound c d rest
  case h_14 =>
    split
    · split <;>
        simp_all [encodeNibbles, Instr.wellFormed, BitVec.toNat_eq, RegNum.low_ofNibble, RegNum.ofNibble_eq_seven]
      omega
    · split <;>
        simp_all [encodeNibbles, Instr.wellFormed, BitVec.toNat_eq, RegNum.high_ofNibble, RegNum.ofNibble_eq_seven]
      omega
  case h_15 =>
    rw [sound_bind]
    rintro disp hw
    split <;>
      simp_all [encodeNibbles, Instr.wellFormed, BitVec.toNat_eq, RegNum.low_ofNibble, RegNum.high_ofNibble]
  case h_16 =>
    simp only [imp_false] at *
    obtain rfl := nibble_eq (f := b) (k := 15) (by omega)
    rw [sound_bind]
    rintro disp hw
    split <;> simp_all [encodeNibbles, Instr.wellFormed, RegNum.low_ofNibble, RegNum.high_ofNibble]
  all_goals simp_all [encodeNibbles, Instr.wellFormed, BitVec.toNat_eq]

end Sys2Proof

namespace Sys2Proof

/-- First byte 78. -/
theorem decodeMovDisp24_sound (c d : Nibble) (ns : List Nibble) :
    Sound (decodeMovDisp24 c d ns) (7#4 :: 8#4 :: c :: d :: ns) := by
  unfold decodeMovDisp24
  split
  · rw [sound_bind]
    rintro u hd
    rw [sound_bind]
    rintro r hc
    split <;> simp_all [encodeNibbles, Instr.wellFormed, BitVec.toNat_eq]
  · simp

/-- First byte 7C. -/
theorem decodeBitReadInd_sound (r : RegNum) (ns : List Nibble) :
    Sound (decodeBitReadInd r ns) (7#4 :: 12#4 :: r.low :: 0#4 :: ns) := by
  unfold decodeBitReadInd
  split
  · rw [sound_bind]
    rintro u hh
    split
    case h_3 | h_4 | h_5 | h_6 =>
      split <;> simp_all [encodeNibbles, Instr.wellFormed, BitVec.toNat_eq, bitLow_bitOf, bitHigh_bitOf]
    all_goals simp_all [encodeNibbles, Instr.wellFormed, BitVec.toNat_eq]
  · simp

/-- First byte 7D. -/
theorem decodeBitWriteInd_sound (r : RegNum) (ns : List Nibble) :
    Sound (decodeBitWriteInd r ns) (7#4 :: 13#4 :: r.low :: 0#4 :: ns) := by
  unfold decodeBitWriteInd
  split
  · rw [sound_bind]
    rintro u hh
    split
    case h_4 => split <;> simp_all [encodeNibbles, Instr.wellFormed, BitVec.toNat_eq, bitLow_bitOf, bitHigh_bitOf]
    all_goals simp_all [encodeNibbles, Instr.wellFormed, BitVec.toNat_eq]
  · simp

/-- First byte 7E. -/
theorem decodeBitReadAbs8_sound (c d : Nibble) (ns : List Nibble) :
    Sound (decodeBitReadAbs8 (byteOf c d) ns) (7#4 :: 14#4 :: c :: d :: ns) := by
  unfold decodeBitReadAbs8
  split
  · rw [sound_bind]
    rintro u hh
    split
    case h_3 | h_4 | h_5 | h_6 =>
      split <;> simp_all [encodeNibbles, Instr.wellFormed, BitVec.toNat_eq, bitLow_bitOf, bitHigh_bitOf]
    all_goals simp_all [encodeNibbles, Instr.wellFormed, BitVec.toNat_eq]
  · simp

/-- First byte 7F. -/
theorem decodeBitWriteAbs8_sound (c d : Nibble) (ns : List Nibble) :
    Sound (decodeBitWriteAbs8 (byteOf c d) ns) (7#4 :: 15#4 :: c :: d :: ns) := by
  unfold decodeBitWriteAbs8
  split
  · rw [sound_bind]
    rintro u hh
    split
    case h_4 => split <;> simp_all [encodeNibbles, Instr.wellFormed, BitVec.toNat_eq, bitLow_bitOf, bitHigh_bitOf]
    all_goals simp_all [encodeNibbles, Instr.wellFormed, BitVec.toNat_eq]
  · simp

/-- First byte 7B. -/
theorem decodeEepmov_sound (c d : Nibble) (ns : List Nibble) :
    Sound (decodeEepmov c d ns) (7#4 :: 11#4 :: c :: d :: ns) := by
  unfold decodeEepmov
  split
  · split
    · split <;> simp_all [encodeNibbles, Instr.wellFormed, BitVec.toNat_eq]
    · simp
  · simp

/-- First bytes 70 to 7F. -/
theorem decodeRow7_sound (b c d : Nibble) (rest : List Nibble) :
    Sound (decodeRow7 b c d rest) (7#4 :: b :: c :: d :: rest) := by
  have hb : b.toNat < 16 := b.isLt
  unfold decodeRow7
  split
  case h_5 | h_6 | h_7 | h_8 =>
    split <;> simp_all [encodeNibbles, Instr.wellFormed, BitVec.toNat_eq, bitLow_bitOf, bitHigh_bitOf]
  case h_9 h => obtain rfl := nibble_eq h; exact decodeMovDisp24_sound c d rest
  case h_10 h => obtain rfl := nibble_eq h; exact decodeWordImm_sound c d rest
  case h_11 h => obtain rfl := nibble_eq h; exact decodeLongImm_sound c d rest
  case h_12 h => obtain rfl := nibble_eq h; exact decodeEepmov_sound c d rest
  case h_13 h =>
    obtain rfl := nibble_eq h
    simp only [sound_bind, zeroNibble_eq_ok, lowReg_eq_ok]
    rintro - rfl r rfl
    exact decodeBitReadInd_sound r rest
  case h_14 h =>
    obtain rfl := nibble_eq h
    simp only [sound_bind, zeroNibble_eq_ok, lowReg_eq_ok]
    rintro - rfl r rfl
    exact decodeBitWriteInd_sound r rest
  case h_15 h => obtain rfl := nibble_eq h; exact decodeBitReadAbs8_sound c d rest
  case h_16 =>
    simp only [imp_false] at *
    obtain rfl := nibble_eq (f := b) (k := 15) (by omega)
    exact decodeBitWriteAbs8_sound c d rest
  all_goals simp_all [encodeNibbles, Instr.wellFormed, BitVec.toNat_eq]

/-- The decoder is sound: what it gives stands, encoded, at the head of the nibbles. -/
theorem decodeNibbles_sound (ns : List Nibble) : Sound (decodeNibbles ns) ns := by
  unfold decodeNibbles
  split
  · rename_i a b c d rest
    have ha : a.toNat < 16 := a.isLt
    split
    case h_1 h => obtain rfl := nibble_eq h; exact decodeRow0_sound b c d rest
    case h_2 h => obtain rfl := nibble_eq h; exact decodeRow1_sound b c d rest
    case h_5 h =>
      obtain rfl := nibble_eq h
      have := decodeBcc_sound b (.d8 (byteOf c d)) rest
      simpa using this
    case h_6 h => obtain rfl := nibble_eq h; exact decodeRow5_sound b c d rest
    case h_7 h => obtain rfl := nibble_eq h; exact decodeRow6_sound b c d rest
    case h_8 h => obtain rfl := nibble_eq h; exact decodeRow7_sound b c d rest
    case h_16 =>
      simp only [imp_false] at *
      obtain rfl := nibble_eq (f := a) (k := 15) (by omega)
      simp [encodeNibbles, Instr.wellFormed]
    all_goals simp_all [encodeNibbles, Instr.wellFormed, BitVec.toNat_eq]
  · simp

/-! ### Nibbles and bytes -/

/-- The encoding is a whole number of words, one to five (R111). -/
theorem encodeNibbles_length (i : Instr) : Laws.Length.Statement i := by
  cases i with
  | incW k | incL k | decW k | decL k => cases k <;> exact List.mem_of_elem_eq_true rfl
  | adds k | subs k => cases k <;> exact List.mem_of_elem_eq_true rfl
  | bra d | brn d | bhi d | bls d | bcc d | bcs d | bne d | beq d | bvc d | bvs d | bpl d | bmi d | bge d | blt d | bgt d
  | ble d => cases d <;> exact List.mem_of_elem_eq_true rfl
  | _ => exact List.mem_of_elem_eq_true rfl

theorem encodeNibbles_even (i : Instr) : (encodeNibbles i).length % 2 = 0 := by
  have h : (encodeNibbles i).length ∈ [4, 8, 12, 16, 20] := encodeNibbles_length i
  simp only [List.mem_cons, List.not_mem_nil, or_false] at h
  omega

/-- Bytes survive the cutting into nibbles. -/
theorem bytesOfNibbles_nibblesOfBytes (bs : List Byte) : bytesOfNibbles (nibblesOfBytes bs) = bs := by
  induction bs with
  | nil => rfl
  | cons b bs ih => simp [nibblesOfBytes, nibbles8, bytesOfNibbles, ih]

/-- An even run of nibbles is packed by itself. -/
theorem bytesOfNibbles_append {ms : List Nibble} (h : ms.length % 2 = 0) (ns : List Nibble) :
    bytesOfNibbles (ms ++ ns) = bytesOfNibbles ms ++ bytesOfNibbles ns := by
  match ms, h with
  | [], _ => rfl
  | [_], h => simp at h
  | a :: b :: rest, h =>
    have hr : rest.length % 2 = 0 := by simp only [List.length_cons] at h; omega
    simp only [List.cons_append, bytesOfNibbles, bytesOfNibbles_append hr ns]

/-- What decodes: the nibbles give the instruction, and the bytes behind it are left. -/
theorem decode_eq_ok {bytes rest : List Byte} {i : Instr} :
    decode bytes = .ok (i, rest) ↔ decodeNibbles (nibblesOfBytes bytes) = .ok i ∧ rest = bytes.drop i.length := by
  unfold decode
  cases decodeNibbles (nibblesOfBytes bytes) with
  | ok j =>
    simp only [Except.ok.injEq, Prod.mk.injEq]
    constructor
    · rintro ⟨rfl, rfl⟩; exact ⟨rfl, rfl⟩
    · rintro ⟨rfl, rfl⟩; exact ⟨rfl, rfl⟩
  | error e => simp

/-- Settles O2: the decoder is sound map by map, and bytes and nibbles are packed and cut the same way. -/
theorem encodeOfDecode : Obligations.EncodeOfDecode := by
  intro bytes rest i h
  obtain ⟨hn, rfl⟩ := decode_eq_ok.mp h
  obtain ⟨⟨tail, ht⟩, hw⟩ := decodeNibbles_sound _ i hn
  have hb : encode i ++ bytesOfNibbles tail = bytes := by
    rw [encode, ← bytesOfNibbles_append (encodeNibbles_even i), ht, bytesOfNibbles_nibblesOfBytes]
  refine ⟨?_, hw⟩
  rw [← hb, Instr.length, List.drop_left]

end Sys2Proof

namespace Sys2Proof

/-! ### What is encoded decodes -/

@[simp] theorem DecodeResult.ok_bind {α β : Type} (a : α) (f : α → DecodeResult β) :
    ((Except.ok a : DecodeResult α) >>= f) = f a := rfl

@[simp] theorem DecodeResult.map_ok {α β : Type} (f : α → β) (a : α) :
    f <$> (Except.ok a : DecodeResult α) = .ok (f a) := rfl

@[simp] theorem DecodeResult.pure_eq {α : Type} (a : α) : (pure a : DecodeResult α) = .ok a := rfl

/-! ### The first nibble selects the row -/

theorem decodeNibbles_row0 (b c d : Nibble) (rest : List Nibble) :
    decodeNibbles (0#4 :: b :: c :: d :: rest) = decodeRow0 b c d rest := rfl

theorem decodeNibbles_row1 (b c d : Nibble) (rest : List Nibble) :
    decodeNibbles (1#4 :: b :: c :: d :: rest) = decodeRow1 b c d := rfl

theorem decodeNibbles_row5 (b c d : Nibble) (rest : List Nibble) :
    decodeNibbles (5#4 :: b :: c :: d :: rest) = decodeRow5 b c d rest := rfl

theorem decodeNibbles_row6 (b c d : Nibble) (rest : List Nibble) :
    decodeNibbles (6#4 :: b :: c :: d :: rest) = decodeRow6 b c d rest := rfl

theorem decodeNibbles_row7 (b c d : Nibble) (rest : List Nibble) :
    decodeNibbles (7#4 :: b :: c :: d :: rest) = decodeRow7 b c d rest := rfl

/-! ### The second nibble selects the map of a row -/

theorem decodeRow0_prefixed (c d : Nibble) (rest : List Nibble) :
    decodeRow0 1#4 c d rest = decodePrefixed c d rest := rfl

theorem decodeRow7_movDisp24 (c d : Nibble) (rest : List Nibble) :
    decodeRow7 8#4 c d rest = decodeMovDisp24 c d rest := rfl

theorem decodeRow7_wordImm (c d : Nibble) (rest : List Nibble) :
    decodeRow7 9#4 c d rest = decodeWordImm c d rest := rfl

theorem decodeRow7_longImm (c d : Nibble) (rest : List Nibble) :
    decodeRow7 10#4 c d rest = decodeLongImm c d rest := rfl

theorem decodeRow7_eepmov (c d : Nibble) (rest : List Nibble) :
    decodeRow7 11#4 c d rest = decodeEepmov c d rest := rfl

theorem decodeRow7_bitReadInd (c : Nibble) (rest : List Nibble) :
    decodeRow7 12#4 c 0#4 rest = lowReg c >>= fun erd => decodeBitReadInd erd rest := rfl

theorem decodeRow7_bitWriteInd (c : Nibble) (rest : List Nibble) :
    decodeRow7 13#4 c 0#4 rest = lowReg c >>= fun erd => decodeBitWriteInd erd rest := rfl

theorem decodeRow7_bitReadAbs8 (c d : Nibble) (rest : List Nibble) :
    decodeRow7 14#4 c d rest = decodeBitReadAbs8 (byteOf c d) rest := rfl

theorem decodeRow7_bitWriteAbs8 (c d : Nibble) (rest : List Nibble) :
    decodeRow7 15#4 c d rest = decodeBitWriteAbs8 (byteOf c d) rest := rfl

theorem decodeRow1_shift {b : Nibble} (hb : b.toNat < 4) (c d : Nibble) : decodeRow1 b c d = decodeShift b c d := by
  obtain h | h | h | h : b = 0 ∨ b = 1 ∨ b = 2 ∨ b = 3 := by
    simp only [BitVec.toNat_eq, BitVec.ofNat_eq_ofNat, BitVec.toNat_ofNat]
    omega
  all_goals subst h; rfl

theorem decodeRow1_unary (c d : Nibble) : decodeRow1 7#4 c d = decodeUnary c d := rfl

theorem decodeRow6_movBAbs (c d : Nibble) (rest : List Nibble) : decodeRow6 10#4 c d rest = decodeMovBAbs c d rest := rfl

theorem decodeRow6_movWAbs (c d : Nibble) (rest : List Nibble) : decodeRow6 11#4 c d rest = decodeMovWAbs c d rest := rfl

/-- Each row of the opcode table lies in one map of the decoder, by its first byte, and there in one place. -/
theorem decodeNibbles_encodeNibbles (i : Instr) (rest : List Nibble) (hw : i.wellFormed = true) :
    decodeNibbles (encodeNibbles i ++ rest) = .ok i := by
  cases i with
  | movBImm | movBLoadAbs8 | movBStoreAbs8 | addBImm | cmpBImm | addxImm | subxImm | andBImm | orBImm | xorBImm =>
    simp [encodeNibbles, decodeNibbles, nibbles8]
  | movBRegReg | movWRegReg | addBReg | addWReg | addxReg | ldcImm | ldcReg | stcReg | andc | orc | xorc | nop =>
    simp [encodeNibbles, decodeNibbles_row0, decodeRow0, nibbles8]
  | movLRegReg | addLReg | incB | daa => simp [encodeNibbles, decodeNibbles_row0, decodeRow0, decodeByteOrLong]
  | incW k | incL k | adds k =>
    cases k <;> simp [encodeNibbles, decodeNibbles_row0, decodeRow0, decodeAddsInc]
  | sleep => simp [encodeNibbles, decodeNibbles_row0, decodeRow0_prefixed, decodePrefixed]
  | movLLoadInd | movLLoadDisp16 | movLLoadDisp24 | movLLoadAbs16 | movLLoadAbs24 | movLStoreInd | movLStoreDisp16
  | movLStoreDisp24 | movLStoreAbs16 | movLStoreAbs24 | popL | pushL =>
    simp [encodeNibbles, decodeNibbles_row0, decodeRow0_prefixed, decodePrefixed, decodeMovL]
  | movLLoadPostInc | movLStorePreDec =>
    simp_all [Instr.wellFormed, encodeNibbles, decodeNibbles_row0, decodeRow0_prefixed, decodePrefixed, decodeMovL, Fin.ext_iff]
  | ldcInd | ldcDisp16 | ldcDisp24 | ldcPostInc | ldcAbs16 | ldcAbs24 | stcInd | stcDisp16 | stcDisp24 | stcPreDec
  | stcAbs16 | stcAbs24 => simp [encodeNibbles, decodeNibbles_row0, decodeRow0_prefixed, decodePrefixed, decodeCcrMemory]
  | mulxsB | mulxsW => simp [encodeNibbles, decodeNibbles_row0, decodeRow0_prefixed, decodePrefixed, decodeMulxs]
  | divxsB | divxsW => simp [encodeNibbles, decodeNibbles_row0, decodeRow0_prefixed, decodePrefixed, decodeDivxs]
  | andLReg | orLReg | xorLReg => simp [encodeNibbles, decodeNibbles_row0, decodeRow0_prefixed, decodePrefixed, decodeLogicL]
  | subBReg | subWReg | cmpBReg | cmpWReg | subxReg | andBReg | orBReg | xorBReg =>
    simp [encodeNibbles, decodeNibbles_row1, decodeRow1]
  | shalB | shalW | shalL | sharB | sharW | sharL | shllB | shllW | shllL | shlrB | shlrW | shlrL | rotlB | rotlW
  | rotlL | rotrB | rotrW | rotrL | rotxlB | rotxlW | rotxlL | rotxrB | rotxrW | rotxrL =>
    simp [encodeNibbles, decodeNibbles_row1, decodeRow1_shift, decodeShift]
  | negB | negW | negL | extsW | extsL | extuW | extuL | notB | notW | notL =>
    simp [encodeNibbles, decodeNibbles_row1, decodeRow1_unary, decodeUnary]
  | subLReg | cmpLReg | decB | das => simp [encodeNibbles, decodeNibbles_row1, decodeRow1, decodeByteOrLong]
  | decW k | decL k | subs k => cases k <;> simp [encodeNibbles, decodeNibbles_row1, decodeRow1, decodeSubsDec]
  | mulxuB | mulxuW | divxuB | divxuW | jmpInd | jmpMemInd | bsr8 | bsr16 | jsrInd | jsrMemInd | rts | rte =>
    simp [encodeNibbles, decodeNibbles_row5, decodeRow5, nibbles8]
  | trapa vec =>
    have hv : vec.toNat < 4 := vec.isLt
    have hm : vec.toNat % 16 = vec.toNat := Nat.mod_eq_of_lt (by omega)
    simp [encodeNibbles, decodeNibbles_row5, decodeRow5, hm, hv]
  | jmpAbs24 | jsrAbs24 => simp [encodeNibbles, decodeNibbles_row5, decodeRow5, nibbles24_eq, addrOf_nibbles]
  | bra d | brn d | bhi d | bls d | bcc d | bcs d | bne d | beq d | bvc d | bvs d | bpl d | bmi d | bge d | blt d | bgt d
  | ble d =>
    cases d with
    | d8 p => simp [encodeNibbles, decodeNibbles, decodeBcc, nibbles8]
    | d16 p => simp [encodeNibbles, decodeNibbles_row5, decodeRow5, decodeBcc]
  | movBLoadInd | movBLoadDisp16 | movBLoadPostInc | movWLoadInd | movWLoadDisp16 | movBStoreInd | movBStoreDisp16
  | movBStorePreDec | movWStoreInd | movWStoreDisp16 | popW | pushW | andWReg | orWReg | xorWReg | bsetRegReg
  | bclrRegReg | bnotRegReg | btstRegReg | bstReg | bistReg => simp [encodeNibbles, decodeNibbles_row6, decodeRow6]
  | movWLoadPostInc | movWStorePreDec =>
    simp_all [Instr.wellFormed, encodeNibbles, decodeNibbles_row6, decodeRow6, Fin.ext_iff]
  | movBLoadAbs16 | movBLoadAbs24 | movBStoreAbs16 | movBStoreAbs24 | movfpe | movtpe =>
    simp [encodeNibbles, decodeNibbles_row6, decodeRow6_movBAbs, decodeMovBAbs]
  | movWLoadAbs16 | movWLoadAbs24 | movWStoreAbs16 | movWStoreAbs24 =>
    simp [encodeNibbles, decodeNibbles_row6, decodeRow6_movWAbs, decodeMovWAbs]
  | bsetImmReg | bclrImmReg | bnotImmReg | btstImmReg | bandReg | biandReg | borReg | biorReg | bxorReg | bixorReg
  | bldReg | bildReg => simp [encodeNibbles, decodeNibbles_row7, decodeRow7]
  | movBLoadDisp24 | movWLoadDisp24 | movBStoreDisp24 | movWStoreDisp24 =>
    simp [encodeNibbles, decodeNibbles_row7, decodeRow7_movDisp24, decodeMovDisp24]
  | movWImm | addWImm | subWImm | cmpWImm | andWImm | orWImm | xorWImm =>
    simp [encodeNibbles, decodeNibbles_row7, decodeRow7_wordImm, decodeWordImm]
  | movLImm | addLImm | subLImm | cmpLImm | andLImm | orLImm | xorLImm =>
    simp [encodeNibbles, decodeNibbles_row7, decodeRow7_longImm, decodeLongImm]
  | eepmovB | eepmovW => simp [encodeNibbles, decodeNibbles_row7, decodeRow7_eepmov, decodeEepmov]
  | btstImmInd | btstRegInd | bandInd | biandInd | borInd | biorInd | bxorInd | bixorInd | bldInd | bildInd =>
    simp [encodeNibbles, decodeNibbles_row7, decodeRow7_bitReadInd, decodeBitReadInd]
  | bsetImmInd | bsetRegInd | bclrImmInd | bclrRegInd | bnotImmInd | bnotRegInd | bstInd | bistInd =>
    simp [encodeNibbles, decodeNibbles_row7, decodeRow7_bitWriteInd, decodeBitWriteInd]
  | btstImmAbs8 | btstRegAbs8 | bandAbs8 | biandAbs8 | borAbs8 | biorAbs8 | bxorAbs8 | bixorAbs8 | bldAbs8
  | bildAbs8 => simp [encodeNibbles, decodeNibbles_row7, decodeRow7_bitReadAbs8, decodeBitReadAbs8, nibbles8]
  | bsetImmAbs8 | bsetRegAbs8 | bclrImmAbs8 | bclrRegAbs8 | bnotImmAbs8 | bnotRegAbs8 | bstAbs8 | bistAbs8 =>
    simp [encodeNibbles, decodeNibbles_row7, decodeRow7_bitWriteAbs8, decodeBitWriteAbs8, nibbles8]

/-- Settles O1: the nibbles of an encoding survive the packing into bytes, and decode to what was encoded. -/
theorem decodeOfEncode : Obligations.DecodeOfEncode := by
  intro i rest hw
  refine decode_eq_ok.mpr ⟨?_, List.drop_left.symm⟩
  rw [encode, nibblesOfBytes_bytesOfNibbles _ _ (encodeNibbles_even i)]
  exact decodeNibbles_encodeNibbles i _ hw

/-- Settles O3: each of the ten words is the encoding of its instruction. -/
theorem decodeWords : Obligations.DecodeWords :=
  ⟨rfl, rfl, rfl, rfl, rfl, rfl, rfl, rfl, rfl, rfl⟩

end Sys2Proof

/-! SUPPORT. The flag formulas of R180 on exact numbers, and the effect of each flag function on CCR (R30 to R38). -/

namespace Sys2Proof.Machine

/-! ### Sums and differences as numbers -/

theorem carryIn_eq_cinOf (b : Bool) : carryIn b = cinOf b := rfl

theorem cinOf_le (b : Bool) : cinOf b ≤ 1 := by cases b <;> decide

theorem two_pow_eq_double {n : Nat} (hn : 0 < n) : 2 ^ n = 2 * 2 ^ (n - 1) := by
  rw [← Nat.pow_succ', Nat.succ_eq_add_one, Nat.sub_add_cancel hn]

theorem sum_eq_sumOf {n : Nat} (d u : BitVec n) (c : Bool) : sum d u c = sumOf d u c := by
  simp [sum, sumOf, carryIn_eq_cinOf, BitVec.ofNat_add]

theorem difference_eq_differenceOf {n : Nat} (d u : BitVec n) (c : Bool) : difference d u c = differenceOf d u c := by
  simp only [difference, differenceOf, carryIn_eq_cinOf, Int.sub_eq_add_neg, BitVec.ofInt_add, BitVec.ofInt_neg,
    BitVec.ofInt_natCast, BitVec.ofNat_toNat, BitVec.setWidth_eq, BitVec.sub_eq_add_neg]

/-- A sum wraps at most once. -/
theorem sumOf_toNat {n : Nat} (d u : BitVec n) (c : Bool) :
    (sumOf d u c).toNat =
      if d.toNat + u.toNat + cinOf c < 2 ^ n then d.toNat + u.toNat + cinOf c
      else d.toNat + u.toNat + cinOf c - 2 ^ n := by
  have hd := d.isLt
  have hu := u.isLt
  have hc := cinOf_le c
  rw [sumOf, BitVec.toNat_ofNat]
  split
  · exact Nat.mod_eq_of_lt (by assumption)
  · rw [Nat.mod_eq_sub_mod (by omega), Nat.mod_eq_of_lt (by omega)]

/-- A difference wraps at most once. -/
theorem differenceOf_toNat {n : Nat} (d u : BitVec n) (c : Bool) :
    ((differenceOf d u c).toNat : Int) =
      if u.toNat + cinOf c ≤ d.toNat then (d.toNat : Int) - u.toNat - cinOf c
      else (d.toNat : Int) - u.toNat - cinOf c + 2 ^ n := by
  have hd := d.isLt
  have hu := u.isLt
  have hc := cinOf_le c
  have hp : ((2 ^ n : Nat) : Int) = 2 ^ n := by push_cast; rfl
  rw [differenceOf, BitVec.toNat_ofInt, Int.toNat_of_nonneg (Int.emod_nonneg _ (by positivity)), hp]
  split
  · exact Int.emod_eq_of_lt (by omega) (by omega)
  · rw [← Int.add_emod_right]
    exact Int.emod_eq_of_lt (by omega) (by omega)

/-- V of an addition: equal signs in, the other sign out, is an exact sum that does not fit (R37, R180). -/
theorem add_overflow_iff {n : Nat} (hn : 0 < n) (d u : BitVec n) (c : Bool) :
    ((d.msb == u.msb) && ((sumOf d u c).msb != d.msb)) = addV d u c (sumOf d u c) := by
  have hd := d.isLt
  have hu := u.isLt
  have hc := cinOf_le c
  have hr := sumOf_toNat d u c
  have hp := two_pow_eq_double hn
  rw [Bool.eq_iff_iff]
  simp only [addV, BitVec.msb_eq_decide, BitVec.toInt_eq_toNat_cond, hp, Bool.and_eq_true, beq_iff_eq, bne_iff_ne,
    decide_eq_decide, decide_eq_true_eq, ne_eq] at *
  generalize 2 ^ (n - 1) = m at *
  split at hr <;> split_ifs <;> omega

/-- V of a subtraction: different signs in, the sign of the minuend lost, is an exact difference that does not fit (R37,
R180). -/
theorem sub_overflow_iff {n : Nat} (hn : 0 < n) (d u : BitVec n) (c : Bool) :
    ((d.msb != u.msb) && ((differenceOf d u c).msb != d.msb)) = subV d u c (differenceOf d u c) := by
  have hd := d.isLt
  have hu := u.isLt
  have hc := cinOf_le c
  have hr := differenceOf_toNat d u c
  have hp := two_pow_eq_double hn
  have hz : (2 ^ n : Int) = ((2 * 2 ^ (n - 1) : Nat) : Int) := by rw [← hp]; push_cast; rfl
  rw [hz] at hr
  rw [Bool.eq_iff_iff]
  simp only [subV, BitVec.msb_eq_decide, BitVec.toInt_eq_toNat_cond, hp, Bool.and_eq_true, bne_iff_ne,
    decide_eq_decide, decide_eq_true_eq, ne_eq] at *
  generalize 2 ^ (n - 1) = m at *
  split at hr <;> split_ifs <;> omega

theorem addH_eq {n : Nat} (d u : BitVec n) (c : Bool) :
    decide (2 ^ (n - 4) - 1 < lowPart d + lowPart u + carryIn c) = addH d u c := by
  have : 0 < 2 ^ (n - 4) := by positivity
  refine decide_eq_decide.mpr ?_
  simp only [lowPart, carryIn_eq_cinOf]
  omega

/-! ### The effect of each flag function on CCR -/

theorem ccrIs_self (ccr : Byte) : CcrIs ccr ccr none none none none none := ⟨rfl, rfl, rfl, rfl, rfl, rfl, rfl, rfl⟩

theorem ccrIs_flagsNZ {n : Nat} (r : BitVec n) (ccr : Byte) :
    CcrIs ccr (flagsNZ r ccr) none (some r.msb) (some (r == 0)) none none := by
  constructor <;> simp [getFlag_flagsNZ]

theorem ccrIs_flagsNZ0 {n : Nat} (r : BitVec n) (ccr : Byte) :
    CcrIs ccr (flagsNZ0 r ccr) none (some r.msb) (some (r == 0)) (some false) none := by
  constructor <;> simp [getFlag_flagsNZ0]

theorem ccrIs_flagsShift {n : Nat} (r : BitVec n) (v c : Bool) (ccr : Byte) :
    CcrIs ccr (flagsShift r v c ccr) none (some r.msb) (some (r == 0)) (some v) (some c) := by
  constructor <;> simp [getFlag_flagsShift]

/-- Five flags, set from a result, a half carry, an overflow and a carry. -/
theorem ccrIs_arithmetic {n : Nat} (r : BitVec n) (h v c : Bool) (ccr : Byte) :
    CcrIs ccr (setFlag (setFlag (setFlag (flagsNZ r ccr) .H h) .V v) .C c) (some h) (some r.msb) (some (r == 0)) (some v)
      (some c) := by
  constructor <;> simp [getFlag_flagsNZ]

theorem ccrIs_flagsAdd {n : Nat} (hn : 0 < n) (d u : BitVec n) (c : Bool) (ccr : Byte) :
    CcrIs ccr (flagsAdd d u c ccr) (some (addH d u c)) (some (sumOf d u c).msb) (some (sumOf d u c == 0))
      (some (addV d u c (sumOf d u c))) (some (addC d u c)) := by
  rw [← add_overflow_iff hn, ← addH_eq, ← sum_eq_sumOf]
  exact ccrIs_arithmetic _ _ _ _ _

theorem ccrIs_flagsSub {n : Nat} (hn : 0 < n) (d u : BitVec n) (c : Bool) (ccr : Byte) :
    CcrIs ccr (flagsSub d u c ccr) (some (subH d u c)) (some (differenceOf d u c).msb)
      (some (differenceOf d u c == 0)) (some (subV d u c (differenceOf d u c))) (some (subC d u c)) := by
  rw [← sub_overflow_iff hn, ← difference_eq_differenceOf]
  exact ccrIs_arithmetic _ _ _ _ _

/-- The sticky Z replaces the Z of the result (R186). -/
theorem ccrIs_stickyZ {n : Nat} {ccr new : Byte} {h m v c : Option Bool} {z : Bool} (r : BitVec n)
    (hc : CcrIs ccr new h m (some z) v c) :
    CcrIs ccr (stickyZ r ccr new) h m (some (getFlag ccr .Z && (r == 0))) v c := by
  obtain ⟨hI, hUI, hU, hH, hN, -, hV, hC⟩ := hc
  constructor <;> simp [stickyZ, hI, hUI, hU, hH, hN, hV, hC]

/-! ### Instructions on registers: result, flags, PC, and everything else as before -/

/-- Where the map and the cells are as before and no register has changed, memory reads as before. -/
theorem sameMemory_of {s t : State} (hm : t.mem = s.mem) (hmode : t.mcuMode = s.mcuMode) (hp : t.product = s.product)
    (hf : t.platform = s.platform) (hr : t.readReg = s.readReg) : SameMemory s t := by
  have hram : t.ramEnabled = s.ramEnabled := congrArg (BitVec.getLsbD · 0) (congrFun hr .syscr)
  refine ⟨fun k => by rw [hm], fun a ha => ?_⟩
  unfold State.peekByte
  rw [locate_congr hmode hp hf hram]
  cases hl : s.locate a with
  | device w => rw [hl] at ha; cases ha
  | ram k | rom k => simp only [hm]
  | reg r => simp only [hr]
  | writeOnly k | disabledRam | stop e => rfl

/-- An instruction that changes general registers, CCR, PC and the count of free values only leaves the rest alone. -/
theorem onlyCpu_of_registers (s : State) (e : Vector Long 8) (p : Addr) (c : Byte) (d : Nat) :
    OnlyCpu s { s with er := e, pc := p, ccr := c, draws := d } where
  inputs := ⟨rfl, rfl, rfl, rfl, rfl, rfl, rfl, rfl, rfl⟩
  control := ⟨rfl, rfl, rfl, rfl, rfl, rfl, rfl⟩
  devices := ⟨rfl, rfl⟩
  processing := ⟨rfl, rfl, rfl, rfl⟩
  memory := sameMemory_of rfl rfl rfl rfl (by funext r; cases r <;> rfl)
  irqInhibit := rfl

theorem resultB_of_modifyB {f : Byte → Byte → Alu 8} {rd : Reg8} {len k : Nat} {s : State} {i : Instr} {r : Byte}
    {h n z v c : Option Bool} (he : exec i s = modifyB f rd len (s.drawn k)) (hr : (f (s.reg8 rd) s.ccr).1 = r)
    (hc : CcrIs s.ccr (f (s.reg8 rd) s.ccr).2 h n z v c) : ResultB i len s rd r h n z v c := by
  subst hr
  refine ⟨_, he, ?_, fun q hq => ?_, fun m => ?_, hc, rfl, onlyCpu_of_registers s _ _ _ _⟩
  · simp
  · simp [reg8_setReg8_other _ _ hq]
  · simp [upper_setReg8]

theorem resultW_of_modifyW {f : Word → Byte → Alu 16} {rd : Reg16} {len k : Nat} {s : State} {i : Instr} {r : Word}
    {h n z v c : Option Bool} (he : exec i s = modifyW f rd len (s.drawn k)) (hr : (f (s.reg16 rd) s.ccr).1 = r)
    (hc : CcrIs s.ccr (f (s.reg16 rd) s.ccr).2 h n z v c) : ResultW i len s rd r h n z v c := by
  subst hr
  refine ⟨_, he, ?_, fun q hq => ?_, hc, rfl, onlyCpu_of_registers s _ _ _ _⟩
  · simp
  · simp [reg16_setReg16_other _ _ hq]

theorem resultL_of_modifyL {f : Long → Byte → Alu 32} {rd : RegNum} {len k : Nat} {s : State} {i : Instr} {r : Long}
    {h n z v c : Option Bool} (he : exec i s = modifyL f rd len (s.drawn k)) (hr : (f (s.reg32 rd) s.ccr).1 = r)
    (hc : CcrIs s.ccr (f (s.reg32 rd) s.ccr).2 h n z v c) : ResultL i len s rd r h n z v c := by
  subst hr
  refine ⟨_, he, ?_, fun m hm => ?_, hc, rfl, onlyCpu_of_registers s _ _ _ _⟩
  · simp
  · simp [reg32_setReg32_other _ _ hm]

theorem resultFlags_of {len : Nat} {s : State} {i : Instr} {ccr : Byte} {h n z v c : Option Bool}
    (he : exec i s = .next ((s.setCcr ccr).advance len)) (hc : CcrIs s.ccr ccr h n z v c) :
    ResultFlags i len s h n z v c :=
  ⟨_, he, fun _ => rfl, hc, rfl, onlyCpu_of_registers s s.er _ _ s.draws⟩

/-- Settles O17: a MOV writes its source and the flags of it. -/
theorem moveRegister : Obligations.MoveRegister := by
  intro s b w l p q x y m n
  exact ⟨resultB_of_modifyB (k := 0) rfl rfl (ccrIs_flagsNZ0 _ _), resultW_of_modifyW (k := 0) rfl rfl (ccrIs_flagsNZ0 _ _),
    resultL_of_modifyL (k := 0) rfl rfl (ccrIs_flagsNZ0 _ _), resultB_of_modifyB (k := 0) rfl rfl (ccrIs_flagsNZ0 _ _),
    resultW_of_modifyW (k := 0) rfl rfl (ccrIs_flagsNZ0 _ _), resultL_of_modifyL (k := 0) rfl rfl (ccrIs_flagsNZ0 _ _)⟩

end Sys2Proof.Machine

/-! ### Arithmetic (41_arithmetic.md) -/

namespace Sys2Proof.Machine

theorem resultB_of_aluAdd {i : Instr} {rd : Reg8} {s : State} {u : Byte} (he : exec i s = modifyB (aluAdd u) rd 2 s) :
    ResultB i 2 s rd (sumOf (s.reg8 rd) u false) (some (addH (s.reg8 rd) u false))
      (some (sumOf (s.reg8 rd) u false).msb) (some (sumOf (s.reg8 rd) u false == 0))
      (some (addV (s.reg8 rd) u false (sumOf (s.reg8 rd) u false))) (some (addC (s.reg8 rd) u false)) :=
  resultB_of_modifyB (k := 0) he (sum_eq_sumOf _ _ _) (ccrIs_flagsAdd (by decide) _ _ _ _)

theorem resultW_of_aluAdd {i : Instr} {rd : Reg16} {len : Nat} {s : State} {u : Word}
    (he : exec i s = modifyW (aluAdd u) rd len s) :
    ResultW i len s rd (sumOf (s.reg16 rd) u false) (some (addH (s.reg16 rd) u false))
      (some (sumOf (s.reg16 rd) u false).msb) (some (sumOf (s.reg16 rd) u false == 0))
      (some (addV (s.reg16 rd) u false (sumOf (s.reg16 rd) u false))) (some (addC (s.reg16 rd) u false)) :=
  resultW_of_modifyW (k := 0) he (sum_eq_sumOf _ _ _) (ccrIs_flagsAdd (by decide) _ _ _ _)

theorem resultL_of_aluAdd {i : Instr} {rd : RegNum} {len : Nat} {s : State} {u : Long}
    (he : exec i s = modifyL (aluAdd u) rd len s) :
    ResultL i len s rd (sumOf (s.reg32 rd) u false) (some (addH (s.reg32 rd) u false))
      (some (sumOf (s.reg32 rd) u false).msb) (some (sumOf (s.reg32 rd) u false == 0))
      (some (addV (s.reg32 rd) u false (sumOf (s.reg32 rd) u false))) (some (addC (s.reg32 rd) u false)) :=
  resultL_of_modifyL (k := 0) he (sum_eq_sumOf _ _ _) (ccrIs_flagsAdd (by decide) _ _ _ _)

theorem resultW_of_aluSub {i : Instr} {rd : Reg16} {len : Nat} {s : State} {u : Word}
    (he : exec i s = modifyW (aluSub u) rd len s) :
    ResultW i len s rd (differenceOf (s.reg16 rd) u false) (some (subH (s.reg16 rd) u false))
      (some (differenceOf (s.reg16 rd) u false).msb) (some (differenceOf (s.reg16 rd) u false == 0))
      (some (subV (s.reg16 rd) u false (differenceOf (s.reg16 rd) u false))) (some (subC (s.reg16 rd) u false)) :=
  resultW_of_modifyW (k := 0) he (difference_eq_differenceOf _ _ _) (ccrIs_flagsSub (by decide) _ _ _ _)

theorem resultL_of_aluSub {i : Instr} {rd : RegNum} {len : Nat} {s : State} {u : Long}
    (he : exec i s = modifyL (aluSub u) rd len s) :
    ResultL i len s rd (differenceOf (s.reg32 rd) u false) (some (subH (s.reg32 rd) u false))
      (some (differenceOf (s.reg32 rd) u false).msb) (some (differenceOf (s.reg32 rd) u false == 0))
      (some (subV (s.reg32 rd) u false (differenceOf (s.reg32 rd) u false))) (some (subC (s.reg32 rd) u false)) :=
  resultL_of_modifyL (k := 0) he (difference_eq_differenceOf _ _ _) (ccrIs_flagsSub (by decide) _ _ _ _)

/-- Settles O26: the model's sums and differences modulo 2^n have the flags of the exact ones. -/
theorem addAndSubtract : Obligations.AddAndSubtract := by
  intro s b w l p q x y m n
  refine ⟨?_, ?_, ?_, ?_, ?_, ?_⟩
  · rintro i u (⟨rfl, rfl⟩ | ⟨rfl, rfl⟩) <;> exact resultB_of_aluAdd rfl
  · rintro i len u (⟨rfl, rfl, rfl⟩ | ⟨rfl, rfl, rfl⟩) <;> exact resultW_of_aluAdd rfl
  · rintro i len u (⟨rfl, rfl, rfl⟩ | ⟨rfl, rfl, rfl⟩) <;> exact resultL_of_aluAdd rfl
  · exact resultB_of_modifyB (k := 0) rfl (difference_eq_differenceOf _ _ _) (ccrIs_flagsSub (by decide) _ _ _ _)
  · rintro i len u (⟨rfl, rfl, rfl⟩ | ⟨rfl, rfl, rfl⟩) <;> exact resultW_of_aluSub rfl
  · rintro i len u (⟨rfl, rfl, rfl⟩ | ⟨rfl, rfl, rfl⟩) <;> exact resultL_of_aluSub rfl

/-! ### NEG: the difference from 0 (R184) -/

theorem differenceOf_zero {n : Nat} (d : BitVec n) : differenceOf 0 d false = -d := by
  simp [← difference_eq_differenceOf, difference, carryIn]

theorem subV_zero {n : Nat} (hn : 0 < n) (d : BitVec n) : subV 0 d false (-d) = (d == BitVec.intMin n) := by
  rw [Bool.eq_iff_iff, beq_iff_eq, subV, decide_eq_true_iff]
  by_cases hd : d = BitVec.intMin n
  · have hlt : 2 ^ (n - 1) < 2 ^ n := Nat.pow_lt_pow_right (by decide) (by omega)
    have hpos : 0 < 2 ^ (n - 1) := by positivity
    simp only [hd, BitVec.neg_intMin, BitVec.toInt_intMin, Nat.mod_eq_of_lt hlt, BitVec.ofNat_eq_ofNat, BitVec.toInt_zero,
      cinOf, iff_true]
    simp only [Bool.false_eq_true, if_false]
    omega
  · simp [hd, BitVec.toInt_neg_of_ne_intMin hd, cinOf]

theorem ccrIs_flagsSub_zero {n : Nat} (hn : 0 < n) (d : BitVec n) (ccr : Byte) :
    CcrIs ccr (flagsSub 0 d false ccr) (some (decide (d.toNat % 2 ^ (n - 4) ≠ 0))) (some (-d).msb) (some (d == 0))
      (some (d == BitVec.intMin n)) (some (d != 0)) := by
  have h := ccrIs_flagsSub hn 0 d false ccr
  rw [differenceOf_zero, subV_zero hn] at h
  have hz : (-d == 0) = (d == 0) := by rw [Bool.eq_iff_iff, beq_iff_eq, beq_iff_eq]; exact BitVec.neg_eq_zero_iff
  have hh : subH 0 d false = decide (d.toNat % 2 ^ (n - 4) ≠ 0) := by
    simp [subH, cinOf, Nat.pos_iff_ne_zero]
  have hc : subC 0 d false = (d != 0) := by
    rw [Bool.eq_iff_iff, bne_iff_ne, ← BitVec.toNat_ne_iff_ne]
    simp [subC, cinOf, Nat.pos_iff_ne_zero]
  rwa [hz, hh, hc] at h

/-- Settles O28: NEG is the subtraction from 0, whose exact flags are those of R184. -/
theorem negate : Obligations.Negate := fun _ _ _ _ =>
  ⟨resultB_of_modifyB (k := 0) rfl (difference_eq_differenceOf _ _ _ |>.trans (differenceOf_zero _))
      (ccrIs_flagsSub_zero (by decide) _ _),
    resultW_of_modifyW (k := 0) rfl (difference_eq_differenceOf _ _ _ |>.trans (differenceOf_zero _))
      (ccrIs_flagsSub_zero (by decide) _ _),
    resultL_of_modifyL (k := 0) rfl (difference_eq_differenceOf _ _ _ |>.trans (differenceOf_zero _))
      (ccrIs_flagsSub_zero (by decide) _ _)⟩

/-- Settles O29: the old C enters, and Z is sticky. -/
theorem addAndSubtractWithCarry : Obligations.AddAndSubtractWithCarry := by
  intro s b p q i u
  refine ⟨?_, ?_⟩
  · rintro (⟨rfl, rfl⟩ | ⟨rfl, rfl⟩) <;>
      exact resultB_of_modifyB (k := 0) rfl (sum_eq_sumOf _ _ _)
        (by simpa only [aluAddx, State.flag, sum_eq_sumOf] using ccrIs_stickyZ _ (ccrIs_flagsAdd (by decide) _ _ _ _))
  · rintro (⟨rfl, rfl⟩ | ⟨rfl, rfl⟩) <;>
      exact resultB_of_modifyB (k := 0) rfl (difference_eq_differenceOf _ _ _)
        (by simpa only [aluSubx, State.flag, difference_eq_differenceOf] using
          ccrIs_stickyZ _ (ccrIs_flagsSub (by decide) _ _ _ _))

/-! ### INC and DEC (R188, R189) -/

/-- V of INC: the exact signed result does not fit. -/
theorem inc_overflow_iff {n k : Nat} (hn : 1 < n) (hk : k < 2 ^ (n - 1)) (d : BitVec n) :
    decide (2 ^ (n - 1) - 1 < d.toInt + k) = decide ((d + BitVec.ofNat n k).toInt ≠ d.toInt + k) := by
  have hd := d.isLt
  have hp := two_pow_eq_double (n := n) (by omega)
  have hz : (2 ^ (n - 1) : Int) = ((2 ^ (n - 1) : Nat) : Int) := by push_cast; rfl
  have hs : (d.toNat + k) % 2 ^ n = if d.toNat + k < 2 ^ n then d.toNat + k else d.toNat + k - 2 ^ n := by
    split
    · exact Nat.mod_eq_of_lt (by assumption)
    · rw [Nat.mod_eq_sub_mod (by omega), Nat.mod_eq_of_lt (by omega)]
  rw [hz, decide_eq_decide]
  simp only [BitVec.toInt_eq_toNat_cond, BitVec.toNat_add, BitVec.toNat_ofNat, Nat.add_mod_mod, hs]
  simp only [hp] at *
  generalize 2 ^ (n - 1) = m at *
  split_ifs <;> omega

/-- V of DEC: the exact signed result does not fit. -/
theorem dec_overflow_iff {n k : Nat} (hn : 1 < n) (hk : k < 2 ^ (n - 1)) (d : BitVec n) :
    decide (d.toInt - k < -2 ^ (n - 1)) = decide ((d - BitVec.ofNat n k).toInt ≠ d.toInt - k) := by
  have hd := d.isLt
  have hp := two_pow_eq_double (n := n) (by omega)
  have hz : (2 ^ (n - 1) : Int) = ((2 ^ (n - 1) : Nat) : Int) := by push_cast; rfl
  have hs : (2 ^ n - k + d.toNat) % 2 ^ n = if d.toNat < k then 2 ^ n - k + d.toNat else d.toNat - k := by
    split
    · exact Nat.mod_eq_of_lt (by omega)
    · rw [Nat.mod_eq_sub_mod (by omega), Nat.mod_eq_of_lt (by omega)]
      omega
  rw [hz, decide_eq_decide]
  simp only [BitVec.toInt_eq_toNat_cond, BitVec.toNat_sub, BitVec.toNat_ofNat, Nat.mod_eq_of_lt (show k < 2 ^ n by omega),
    hs]
  simp only [hp] at *
  generalize 2 ^ (n - 1) = m at *
  split_ifs <;> omega

theorem ccrIs_flagsInc {n k : Nat} (hn : 1 < n) (hk : k < 2 ^ (n - 1)) (d : BitVec n) (ccr : Byte) :
    CcrIs ccr (flagsInc d k ccr) none (some (d + BitVec.ofNat n k).msb) (some (d + BitVec.ofNat n k == 0))
      (some (decide ((d + BitVec.ofNat n k).toInt ≠ d.toInt + k))) none := by
  rw [← inc_overflow_iff hn hk]
  constructor <;> simp [flagsInc, getFlag_flagsNZ]

theorem ccrIs_flagsDec {n k : Nat} (hn : 1 < n) (hk : k < 2 ^ (n - 1)) (d : BitVec n) (ccr : Byte) :
    CcrIs ccr (flagsDec d k ccr) none (some (d - BitVec.ofNat n k).msb) (some (d - BitVec.ofNat n k == 0))
      (some (decide ((d - BitVec.ofNat n k).toInt ≠ d.toInt - k))) none := by
  rw [← dec_overflow_iff hn hk]
  constructor <;> simp [flagsDec, getFlag_flagsNZ]

theorem incAmount_lt (k : IncStep) : incAmount k < 2 ^ (16 - 1) ∧ incAmount k < 2 ^ (32 - 1) := by
  cases k <;> decide

/-- Settles O30: INC and DEC have the exact signed overflow; ADDS and SUBS set no flag. -/
theorem incrementAndDecrement : Obligations.IncrementAndDecrement := by
  intro s k m q y n c e
  have hc : c = incAmount k := by cases k <;> rfl
  have he : e = addsAmount m := by cases m <;> rfl
  obtain ⟨hk16, hk32⟩ := incAmount_lt k
  rw [hc, he]
  refine ⟨resultB_of_modifyB (k := 0) rfl rfl (ccrIs_flagsInc (by decide) (by decide) _ _),
    resultB_of_modifyB (k := 0) rfl rfl (ccrIs_flagsDec (by decide) (by decide) _ _),
    resultW_of_modifyW (k := 0) rfl rfl (ccrIs_flagsInc (by decide) hk16 _ _),
    resultW_of_modifyW (k := 0) rfl rfl (ccrIs_flagsDec (by decide) hk16 _ _),
    resultL_of_modifyL (k := 0) rfl rfl (ccrIs_flagsInc (by decide) hk32 _ _),
    resultL_of_modifyL (k := 0) rfl rfl (ccrIs_flagsDec (by decide) hk32 _ _),
    resultL_of_modifyL (f := fun d ccr => (d + BitVec.ofNat 32 (addsAmount m), ccr)) (k := 0) rfl ?_ (ccrIs_self _),
    resultL_of_modifyL (f := fun d ccr => (d - BitVec.ofNat 32 (addsAmount m), ccr)) (k := 0) rfl ?_ (ccrIs_self _)⟩
  · simp [BitVec.ofNat_add]
  · simp [Int.sub_eq_add_neg, BitVec.ofInt_add, BitVec.ofInt_neg, BitVec.sub_eq_add_neg]

/-! ### Multiplication and extension (R192 to R195, R202, R203) -/

theorem zeroExtend_mul_zeroExtend {m k n : Nat} (x : BitVec m) (y : BitVec k) :
    x.zeroExtend n * y.zeroExtend n = BitVec.ofNat n (x.toNat * y.toNat) := by
  apply BitVec.eq_of_toNat_eq
  simp [BitVec.toNat_mul, Nat.mul_mod]

theorem signExtend_mul_signExtend {m k n : Nat} (x : BitVec m) (y : BitVec k) :
    x.signExtend n * y.signExtend n = BitVec.ofInt n (x.toInt * y.toInt) :=
  (BitVec.ofInt_mul _ _).symm

/-- A number that fits is read back from its two's complement. -/
theorem toInt_ofInt_of_fits {n : Nat} {v : Int} (hn : 0 < n) (h : -2 ^ (n - 1) ≤ v ∧ v < 2 ^ (n - 1)) :
    (BitVec.ofInt n v).toInt = v := BitVec.toInt_ofInt_eq_self hn h.1 h.2

theorem msb_ofInt_of_fits {n : Nat} {v : Int} (hn : 0 < n) (h : -2 ^ (n - 1) ≤ v ∧ v < 2 ^ (n - 1)) :
    (BitVec.ofInt n v).msb = decide (v < 0) := by
  rw [BitVec.msb_eq_toInt, toInt_ofInt_of_fits hn h]

theorem ofInt_beq_zero_of_fits {n : Nat} {v : Int} (hn : 0 < n) (h : -2 ^ (n - 1) ≤ v ∧ v < 2 ^ (n - 1)) :
    (BitVec.ofInt n v == 0) = decide (v = 0) := by
  rw [Bool.eq_iff_iff, beq_iff_eq, decide_eq_true_iff, ← BitVec.toInt_inj, toInt_ofInt_of_fits hn h]
  simp

/-- N and Z of a number that fits are its sign and whether it is 0. -/
theorem ccrIs_flagsNZ_ofInt {n : Nat} {v : Int} (hn : 0 < n) (h : -2 ^ (n - 1) ≤ v ∧ v < 2 ^ (n - 1)) (ccr : Byte) :
    CcrIs ccr (flagsNZ (BitVec.ofInt n v) ccr) none (some (decide (v < 0))) (some (decide (v = 0))) none none := by
  rw [← msb_ofInt_of_fits hn h, ← ofInt_beq_zero_of_fits hn h]
  exact ccrIs_flagsNZ _ _

theorem ccrIs_flagsNZ0_ofInt {n : Nat} {v : Int} (hn : 0 < n) (h : -2 ^ (n - 1) ≤ v ∧ v < 2 ^ (n - 1)) (ccr : Byte) :
    CcrIs ccr (flagsNZ0 (BitVec.ofInt n v) ccr) none (some (decide (v < 0))) (some (decide (v = 0))) (some false)
      none := by
  rw [← msb_ofInt_of_fits hn h, ← ofInt_beq_zero_of_fits hn h]
  exact ccrIs_flagsNZ0 _ _

/-- The product of two signed numbers fits in twice the width. -/
theorem toInt_mul_fits {n : Nat} (hn : 0 < n) (x y : BitVec n) :
    -2 ^ (2 * n - 1) ≤ x.toInt * y.toInt ∧ x.toInt * y.toInt < 2 ^ (2 * n - 1) := by
  have hlt : (2 ^ (n * 2 - 2) : Int) < 2 ^ (2 * n - 1) := pow_lt_pow_right₀ (by decide) (by omega)
  have hle := BitVec.toInt_mul_toInt_le (x := x) (y := y)
  have hge := BitVec.le_toInt_mul_toInt (x := x) (y := y)
  constructor <;> omega

/-- Settles O31: the product is taken at twice the width, where the exact one fits. -/
theorem multiply : Obligations.Multiply := by
  intro s p x y n
  refine ⟨resultW_of_modifyW (k := 0) rfl ?_ (ccrIs_self _), resultL_of_modifyL (k := 0) rfl ?_ (ccrIs_self _),
    resultW_of_modifyW (k := 0) rfl (signExtend_mul_signExtend _ _) ?_,
    resultL_of_modifyL (k := 0) rfl (signExtend_mul_signExtend _ _) ?_⟩
  · rw [aluMulxuB, zeroExtend_mul_zeroExtend, BitVec.extractLsb'_toNat]
    simp
  · exact zeroExtend_mul_zeroExtend _ _
  · rw [aluMulxsB, signExtend_mul_signExtend]
    exact ccrIs_flagsNZ_ofInt (by decide) (toInt_mul_fits (by decide) _ _) _
  · rw [aluMulxsW, signExtend_mul_signExtend]
    exact ccrIs_flagsNZ_ofInt (by decide) (toInt_mul_fits (by decide) _ _) _

/-- A number of `m` bits fits in more. -/
theorem toInt_fits {m n : Nat} (h : m ≤ n) (x : BitVec m) : -2 ^ (n - 1) ≤ x.toInt ∧ x.toInt < 2 ^ (n - 1) := by
  have hp : (2 ^ (m - 1) : Int) ≤ 2 ^ (n - 1) := by gcongr; omega
  have := BitVec.le_toInt x
  have := BitVec.toInt_lt (x := x)
  omega

theorem ccrIs_extu {n : Nat} {r : BitVec n} {v : Nat} (hr : r.toNat = v) (ccr : Byte) :
    CcrIs ccr (setFlag (flagsNZ0 r ccr) .N false) none (some false) (some (decide (v = 0))) (some false) none := by
  have hz : (r == 0) = decide (v = 0) := by
    rw [Bool.eq_iff_iff, beq_iff_eq, decide_eq_true_iff, ← BitVec.toNat_inj, hr]
    simp
  rw [← hz]
  constructor <;> simp [getFlag_flagsNZ0]

theorem zeroExtend_eq_ofNat {m : Nat} (n : Nat) (x : BitVec m) : x.zeroExtend n = BitVec.ofNat n x.toNat := by
  apply BitVec.eq_of_toNat_eq
  simp

/-- Settles O35: sign extension keeps the signed number, zero extension the unsigned one, whose sign is clear. -/
theorem extend : Obligations.Extend := by
  intro s y n
  refine ⟨resultW_of_modifyW (k := 0) rfl rfl (ccrIs_flagsNZ0_ofInt (by decide) (toInt_fits (by decide) _) _),
    resultL_of_modifyL (k := 0) rfl rfl (ccrIs_flagsNZ0_ofInt (by decide) (toInt_fits (by decide) _) _), ?_, ?_⟩
  · refine resultW_of_modifyW (k := 0) rfl ?_ (ccrIs_extu ?_ _)
    · rw [aluExtuW, zeroExtend_eq_ofNat, BitVec.extractLsb'_toNat]
      simp
    · rw [BitVec.toNat_setWidth_of_le (by decide), BitVec.extractLsb'_toNat]
      simp
  · refine resultL_of_modifyL (k := 0) rfl ?_ (ccrIs_extu ?_ _)
    · rw [aluExtuL, zeroExtend_eq_ofNat]
      rfl
    · exact BitVec.toNat_setWidth_of_le (by decide)

end Sys2Proof.Machine

namespace Sys2Proof

open Machine in
/-- Settles O27: a comparison writes the flags of the exact difference. -/
theorem compare : Obligations.Compare := by
  intro s b w l p q x y m n
  refine ⟨?_, ?_, ?_⟩
  · rintro i u (⟨rfl, rfl⟩ | ⟨rfl, rfl⟩) <;> exact resultFlags_of rfl (ccrIs_flagsSub (by decide) _ _ _ _)
  · rintro i len u (⟨rfl, rfl, rfl⟩ | ⟨rfl, rfl, rfl⟩) <;>
      exact resultFlags_of rfl (ccrIs_flagsSub (by decide) _ _ _ _)
  · rintro i len u (⟨rfl, rfl, rfl⟩ | ⟨rfl, rfl, rfl⟩) <;>
      exact resultFlags_of rfl (ccrIs_flagsSub (by decide) _ _ _ _)

end Sys2Proof

/-! ### Logic, shifts and bits of registers (42_logic.md to 44_bit_manipulation.md) -/

namespace Sys2Proof.Machine

/-- Settles O36: each form is one bitwise operation with the flags of its result. -/
theorem logic : Obligations.Logic := by
  intro s b w l p q x y m n
  refine ⟨?_, ?_, ?_⟩
  · rintro i r (⟨rfl, rfl⟩ | ⟨rfl, rfl⟩ | ⟨rfl, rfl⟩ | ⟨rfl, rfl⟩ | ⟨rfl, rfl⟩ | ⟨rfl, rfl⟩ | ⟨rfl, rfl⟩) <;>
      exact resultB_of_modifyB (k := 0) rfl rfl (ccrIs_flagsNZ0 _ _)
  · rintro i len r (⟨rfl, rfl, rfl⟩ | ⟨rfl, rfl, rfl⟩ | ⟨rfl, rfl, rfl⟩ | ⟨rfl, rfl, rfl⟩ | ⟨rfl, rfl, rfl⟩ |
      ⟨rfl, rfl, rfl⟩ | ⟨rfl, rfl, rfl⟩) <;> exact resultW_of_modifyW (k := 0) rfl rfl (ccrIs_flagsNZ0 _ _)
  · rintro i len r (⟨rfl, rfl, rfl⟩ | ⟨rfl, rfl, rfl⟩ | ⟨rfl, rfl, rfl⟩ | ⟨rfl, rfl, rfl⟩ | ⟨rfl, rfl, rfl⟩ |
      ⟨rfl, rfl, rfl⟩ | ⟨rfl, rfl, rfl⟩) <;> exact resultL_of_modifyL (k := 0) rfl rfl (ccrIs_flagsNZ0 _ _)

/-! ### Shifts and rotates, bit by bit (R250 to R258) -/

theorem bitAt_false (n i : Nat) : bitAt n i false = 0#n := by simp [bitAt, carryIn]

theorem getLsbD_bitAt {n i j : Nat} (hj : j < n) (b : Bool) : (bitAt n i b).getLsbD j = (decide (j = i) && b) := by
  cases b with
  | false => simp [bitAt_false]
  | true =>
    rw [Bool.eq_iff_iff, bitAt, carryIn, if_pos rfl, BitVec.getLsbD_shiftLeft, BitVec.getLsbD_one]
    simp only [hj, Bool.and_eq_true, Bool.not_eq_true', decide_eq_true_eq, decide_eq_false_iff_not, true_and, and_true]
    omega

theorem shiftedLeft_or_bitAt {n : Nat} (d : BitVec n) (low : Bool) : ShiftedLeft d ((d <<< 1) ||| bitAt n 0 low) low := by
  intro i hi
  rw [BitVec.getLsbD_or, BitVec.getLsbD_shiftLeft, getLsbD_bitAt hi]
  cases i <;> simp [hi]

theorem shiftedLeft_shiftLeft {n : Nat} (d : BitVec n) : ShiftedLeft d (d <<< 1) false := by
  simpa [bitAt_false] using shiftedLeft_or_bitAt d false

theorem shiftedRight_or_bitAt {n : Nat} (d : BitVec n) (high : Bool) :
    ShiftedRight d ((d >>> 1) ||| bitAt n (n - 1) high) high := by
  intro i hi
  rw [BitVec.getLsbD_or, BitVec.getLsbD_ushiftRight, getLsbD_bitAt hi, Nat.add_comm 1 i]
  by_cases h : i = n - 1
  · simp [h, BitVec.getLsbD_of_ge d (n - 1 + 1) (by omega)]
  · simp [h]

theorem shiftedRight_ushiftRight {n : Nat} (d : BitVec n) : ShiftedRight d (d >>> 1) false := by
  simpa [bitAt_false] using shiftedRight_or_bitAt d false

/-- Settles O37: each shift is a shift by one place, with one bit brought in. -/
theorem shiftAndRotate : Obligations.ShiftAndRotate := by
  refine ⟨fun s q y n => ⟨?_, ?_, ?_⟩, fun s q y n => ⟨?_, ?_, ?_⟩⟩
  · rintro i low ar (⟨rfl, rfl, rfl⟩ | ⟨rfl, rfl, rfl⟩ | ⟨rfl, rfl, rfl⟩ | ⟨rfl, rfl, rfl⟩)
    · exact ⟨_, shiftedLeft_shiftLeft _, resultB_of_modifyB (k := 0) rfl rfl (ccrIs_flagsShift _ _ _ _)⟩
    · exact ⟨_, shiftedLeft_shiftLeft _, resultB_of_modifyB (k := 0) rfl rfl (ccrIs_flagsShift _ _ _ _)⟩
    · exact ⟨_, shiftedLeft_or_bitAt _ _, resultB_of_modifyB (k := 0) rfl rfl (ccrIs_flagsShift _ _ _ _)⟩
    · exact ⟨_, shiftedLeft_or_bitAt _ _, resultB_of_modifyB (k := 0) rfl rfl (ccrIs_flagsShift _ _ _ _)⟩
  · rintro i low ar (⟨rfl, rfl, rfl⟩ | ⟨rfl, rfl, rfl⟩ | ⟨rfl, rfl, rfl⟩ | ⟨rfl, rfl, rfl⟩)
    · exact ⟨_, shiftedLeft_shiftLeft _, resultW_of_modifyW (k := 0) rfl rfl (ccrIs_flagsShift _ _ _ _)⟩
    · exact ⟨_, shiftedLeft_shiftLeft _, resultW_of_modifyW (k := 0) rfl rfl (ccrIs_flagsShift _ _ _ _)⟩
    · exact ⟨_, shiftedLeft_or_bitAt _ _, resultW_of_modifyW (k := 0) rfl rfl (ccrIs_flagsShift _ _ _ _)⟩
    · exact ⟨_, shiftedLeft_or_bitAt _ _, resultW_of_modifyW (k := 0) rfl rfl (ccrIs_flagsShift _ _ _ _)⟩
  · rintro i low ar (⟨rfl, rfl, rfl⟩ | ⟨rfl, rfl, rfl⟩ | ⟨rfl, rfl, rfl⟩ | ⟨rfl, rfl, rfl⟩)
    · exact ⟨_, shiftedLeft_shiftLeft _, resultL_of_modifyL (k := 0) rfl rfl (ccrIs_flagsShift _ _ _ _)⟩
    · exact ⟨_, shiftedLeft_shiftLeft _, resultL_of_modifyL (k := 0) rfl rfl (ccrIs_flagsShift _ _ _ _)⟩
    · exact ⟨_, shiftedLeft_or_bitAt _ _, resultL_of_modifyL (k := 0) rfl rfl (ccrIs_flagsShift _ _ _ _)⟩
    · exact ⟨_, shiftedLeft_or_bitAt _ _, resultL_of_modifyL (k := 0) rfl rfl (ccrIs_flagsShift _ _ _ _)⟩
  · rintro i high (⟨rfl, rfl⟩ | ⟨rfl, rfl⟩ | ⟨rfl, rfl⟩ | ⟨rfl, rfl⟩)
    · exact ⟨_, shiftedRight_or_bitAt _ _, resultB_of_modifyB (k := 0) rfl rfl (ccrIs_flagsShift _ _ _ _)⟩
    · exact ⟨_, shiftedRight_ushiftRight _, resultB_of_modifyB (k := 0) rfl rfl (ccrIs_flagsShift _ _ _ _)⟩
    · exact ⟨_, shiftedRight_or_bitAt _ _, resultB_of_modifyB (k := 0) rfl rfl (ccrIs_flagsShift _ _ _ _)⟩
    · exact ⟨_, shiftedRight_or_bitAt _ _, resultB_of_modifyB (k := 0) rfl rfl (ccrIs_flagsShift _ _ _ _)⟩
  · rintro i high (⟨rfl, rfl⟩ | ⟨rfl, rfl⟩ | ⟨rfl, rfl⟩ | ⟨rfl, rfl⟩)
    · exact ⟨_, shiftedRight_or_bitAt _ _, resultW_of_modifyW (k := 0) rfl rfl (ccrIs_flagsShift _ _ _ _)⟩
    · exact ⟨_, shiftedRight_ushiftRight _, resultW_of_modifyW (k := 0) rfl rfl (ccrIs_flagsShift _ _ _ _)⟩
    · exact ⟨_, shiftedRight_or_bitAt _ _, resultW_of_modifyW (k := 0) rfl rfl (ccrIs_flagsShift _ _ _ _)⟩
    · exact ⟨_, shiftedRight_or_bitAt _ _, resultW_of_modifyW (k := 0) rfl rfl (ccrIs_flagsShift _ _ _ _)⟩
  · rintro i high (⟨rfl, rfl⟩ | ⟨rfl, rfl⟩ | ⟨rfl, rfl⟩ | ⟨rfl, rfl⟩)
    · exact ⟨_, shiftedRight_or_bitAt _ _, resultL_of_modifyL (k := 0) rfl rfl (ccrIs_flagsShift _ _ _ _)⟩
    · exact ⟨_, shiftedRight_ushiftRight _, resultL_of_modifyL (k := 0) rfl rfl (ccrIs_flagsShift _ _ _ _)⟩
    · exact ⟨_, shiftedRight_or_bitAt _ _, resultL_of_modifyL (k := 0) rfl rfl (ccrIs_flagsShift _ _ _ _)⟩
    · exact ⟨_, shiftedRight_or_bitAt _ _, resultL_of_modifyL (k := 0) rfl rfl (ccrIs_flagsShift _ _ _ _)⟩

/-! ### Bits (R270 to R285) -/

theorem getLsbD_putBit (v : Byte) (b : BitVec 3) (x : Bool) {j : Nat} (hj : j < 8) :
    (putBit v b x).getLsbD j = if j = b.toNat then x else v.getLsbD j := by
  have hone : ((1#8) <<< b.toNat).getLsbD j = decide (j = b.toNat) := by
    simpa [bitAt, carryIn] using getLsbD_bitAt (i := b.toNat) hj true
  cases x
  · simp only [putBit, Bool.false_eq_true, if_false, BitVec.getLsbD_and, BitVec.getLsbD_not, hone, hj]
    by_cases h : j = b.toNat <;> simp [h]
  · simp only [putBit, if_true, BitVec.getLsbD_or, hone]
    by_cases h : j = b.toNat <;> simp [h]

theorem bitNumber_toNat (s : State) (rn : Reg8) : (s.bitNumber rn).toNat = (s.reg8 rn).toNat % 8 := by
  simp [State.bitNumber, BitVec.extractLsb'_toNat]

/-- A writing form on a register puts one bit into it. -/
theorem putsBit_of_modifyBit {f : Bool → Bool} {b : BitVec 3} {rd : Reg8} {s : State} {i : Instr} {x : Bool}
    {k : Nat} (he : exec i s = modifyBit f b (.reg rd) s) (hk : b.toNat = k) (hx : f (bitOfByte (s.reg8 rd) b) = x) :
    ∃ r : Byte, (∀ j, j < 8 → r.getLsbD j = if j = k then x else (s.reg8 rd).getLsbD j) ∧
      ResultB i 2 s rd r none none none none none :=
  hk ▸ ⟨putBit (s.reg8 rd) b x, fun _ hj => getLsbD_putBit _ _ _ hj,
    resultB_of_modifyB (f := fun d ccr => (putBit d b (f (bitOfByte d b)), ccr)) (k := 0) he
      (congrArg (putBit _ b) hx) (ccrIs_self _)⟩

/-- Settles O38: each form puts one bit into the byte register. -/
theorem writeBitOfRegister : Obligations.WriteBitOfRegister := by
  rintro s b rn rd i k x (⟨rfl, rfl, rfl⟩ | ⟨rfl, rfl, rfl⟩ | ⟨rfl, rfl, rfl⟩ | ⟨rfl, rfl, rfl⟩ | ⟨rfl, rfl, rfl⟩ |
    ⟨rfl, rfl, rfl⟩ | ⟨rfl, rfl, rfl⟩ | ⟨rfl, rfl, rfl⟩)
  · exact putsBit_of_modifyBit (f := fun _ => true) rfl rfl rfl
  · exact putsBit_of_modifyBit (f := fun _ => true) rfl (bitNumber_toNat s rn) rfl
  · exact putsBit_of_modifyBit (f := fun _ => false) rfl rfl rfl
  · exact putsBit_of_modifyBit (f := fun _ => false) rfl (bitNumber_toNat s rn) rfl
  · exact putsBit_of_modifyBit (f := fun x => !x) rfl rfl rfl
  · exact putsBit_of_modifyBit (f := fun x => !x) rfl (bitNumber_toNat s rn)
      (congrArg (fun k => !(s.reg8 rd).getLsbD k) (bitNumber_toNat s rn))
  · exact putsBit_of_modifyBit (f := fun _ => s.flag .C) rfl rfl rfl
  · exact putsBit_of_modifyBit (f := fun _ => !s.flag .C) rfl rfl rfl

theorem ccrIs_setZ (ccr : Byte) (z : Bool) : CcrIs ccr (setFlag ccr .Z z) none none (some z) none none := by
  constructor <;> simp

theorem ccrIs_setC (ccr : Byte) (c : Bool) : CcrIs ccr (setFlag ccr .C c) none none none none (some c) := by
  constructor <;> simp

/-- Settles O40: one flag is written from one bit and the old C. -/
theorem testBitOfRegister : Obligations.TestBitOfRegister := by
  intro s b rn rd x c
  have hx : (c != x) = (c ^^ x) := by cases c <;> cases x <;> rfl
  have hnx : (c == x) = (c ^^ !x) := by cases c <;> cases x <;> rfl
  rw [← bitNumber_toNat, hx, hnx]
  exact ⟨resultFlags_of rfl (ccrIs_setZ _ _), resultFlags_of rfl (ccrIs_setZ _ _), resultFlags_of rfl (ccrIs_setC _ _),
    resultFlags_of rfl (ccrIs_setC _ _), resultFlags_of rfl (ccrIs_setC _ _), resultFlags_of rfl (ccrIs_setC _ _),
    resultFlags_of rfl (ccrIs_setC _ _), resultFlags_of rfl (ccrIs_setC _ _), resultFlags_of rfl (ccrIs_setC _ _),
    resultFlags_of rfl (ccrIs_setC _ _)⟩

/-! ### Branches (45_branch.md) -/

theorem ofInt_add_toInt (a : Addr) (k : Nat) {n : Nat} (p : BitVec n) :
    BitVec.ofInt 24 (a.toNat + k + p.toInt) = a + BitVec.ofNat 24 k + p.signExtend 24 := by
  simp [BitVec.ofInt_add, BitVec.signExtend]

theorem ofInt_add_ofNat (a : Addr) (k : Nat) : BitVec.ofInt 24 (a.toNat + k + 0) = a + BitVec.ofNat 24 k := by
  simp [BitVec.ofInt_add]

theorem branches_of {i : Instr} {d : BranchDisp} {taken : Bool} {s : State} (he : exec i s = branch taken d s) :
    Branches i d taken s := by
  refine ⟨_, he, ?_⟩
  cases taken with
  | false =>
    refine ⟨fun _ => rfl, rfl, onlyCpu_of_registers s s.er _ s.ccr s.draws, ?_⟩
    cases d <;> exact congrArg evenAddr (ofInt_add_ofNat _ _).symm
  | true =>
    refine ⟨fun _ => rfl, rfl, onlyCpu_of_registers s s.er _ s.ccr s.draws, ?_⟩
    cases d <;> exact congrArg evenAddr (ofInt_add_toInt _ _ _).symm

theorem branches_of_eq {i : Instr} {d : BranchDisp} {taken x : Bool} {s : State} (he : exec i s = branch x d s)
    (hx : taken = x) : Branches i d taken s := hx ▸ branches_of he

/-- Settles O42: each condition is the one of the table. -/
theorem conditionalBranches : Obligations.ConditionalBranches := by
  intro s d n z v c
  have hpos : ∀ b : Bool, decide (b = true) = b := by decide
  have hneg : ∀ b : Bool, decide (b = false) = !b := by decide
  have heq : ∀ a b : Bool, decide ((a ^^ b) = false) = (a == b) := by decide
  exact ⟨branches_of rfl, branches_of rfl, branches_of_eq rfl (hneg _), branches_of_eq rfl (hpos _),
    branches_of_eq rfl (hneg _), branches_of_eq rfl (hpos _), branches_of_eq rfl (hneg _), branches_of_eq rfl (hpos _),
    branches_of_eq rfl (hneg _), branches_of_eq rfl (hpos _), branches_of_eq rfl (hneg _), branches_of_eq rfl (hpos _),
    branches_of_eq rfl (heq _ _), branches_of_eq rfl (hpos _), branches_of_eq rfl (hneg _), branches_of_eq rfl (hpos _)⟩

/-- N differs from V after a comparison exactly where the minuend is the smaller signed number. -/
theorem sub_sign_ne_overflow {n : Nat} (hn : 0 < n) (d u : BitVec n) :
    ((differenceOf d u false).msb ^^ subV d u false (differenceOf d u false)) = decide (d.toInt < u.toInt) := by
  have hd := d.isLt
  have hu := u.isLt
  have hr := differenceOf_toNat d u false
  have hp := two_pow_eq_double hn
  have hz : (2 ^ n : Int) = ((2 * 2 ^ (n - 1) : Nat) : Int) := by rw [← hp]; push_cast; rfl
  rw [hz] at hr
  rw [← Bool.bne_eq_xor, Bool.eq_iff_iff]
  simp only [subV, BitVec.msb_eq_decide, BitVec.toInt_eq_toNat_cond, hp, bne_iff_ne, ne_eq, decide_eq_decide,
    decide_eq_true_eq, cinOf, Bool.false_eq_true, if_false] at *
  generalize 2 ^ (n - 1) = m at *
  split at hr <;> split_ifs <;> omega

theorem differenceOf_eq_zero_iff {n : Nat} (d u : BitVec n) : (differenceOf d u false == 0) = decide (d = u) := by
  rw [← difference_eq_differenceOf, Bool.eq_iff_iff, beq_iff_eq, decide_eq_true_iff]
  simp [difference, carryIn, BitVec.sub_eq_iff_eq_add]

theorem subC_eq {n : Nat} (d u : BitVec n) : subC d u false = decide (d.toNat < u.toNat) := rfl

/-- The conditions read C, Z and N ^ V, which a comparison makes the unsigned order, equality and the signed order. -/
theorem branchesOnOrder_of {n : Nat} (hn : 0 < n) (d u : BitVec n) (disp : BranchDisp) {ccr : Byte} {t : State}
    (hc : t.ccr = flagsSub d u false ccr) : BranchesOnOrder d u disp t := by
  obtain ⟨-, -, -, -, hN, hZ, hV, hC⟩ := ccrIs_flagsSub hn d u false ccr
  have hC' : t.flag .C = decide (d.toNat < u.toNat) := by rw [State.flag, hc, hC]; rfl
  have hZ' : t.flag .Z = decide (d = u) := by rw [State.flag, hc, hZ]; exact differenceOf_eq_zero_iff d u
  have hNV : (t.flag .N ^^ t.flag .V) = decide (d.toInt < u.toInt) := by
    rw [State.flag, State.flag, hc, hN, hV]
    exact sub_sign_ne_overflow hn d u
  have hnat := BitVec.toNat_inj (x := d) (y := u)
  have hint := BitVec.toInt_inj (x := d) (y := u)
  obtain ⟨-, -, hhi, hls, hcc, hcs, hne, heq, -, -, -, -, hge, hlt, hgt, hle⟩ := conditionalBranches t disp
  simp only [hC', hZ', hNV, Bool.or_eq_true, Bool.or_eq_false_iff, decide_eq_true_eq, decide_eq_false_iff_not] at *
  have h1 : u.toNat < d.toNat ↔ ¬ d.toNat < u.toNat ∧ ¬ d = u := by rw [← hnat]; omega
  have h2 : d.toNat ≤ u.toNat ↔ d.toNat < u.toNat ∨ d = u := by rw [← hnat]; omega
  have h3 : u.toInt < d.toInt ↔ ¬ d = u ∧ ¬ d.toInt < u.toInt := by rw [← hint]; omega
  have h4 : d.toInt ≤ u.toInt ↔ d = u ∨ d.toInt < u.toInt := by rw [← hint]; omega
  simp only [BranchesOnOrder, h1, h2, h3, h4, ← Nat.not_lt, ← Int.not_lt]
  exact ⟨hhi, hls, hcc, hcs, hne, heq, hge, hlt, hgt, hle⟩

/-- Settles O43: the flags of the exact difference give the order. -/
theorem compareThenBranch : Obligations.CompareThenBranch := by
  intro s disp b w l p q x y m n i
  refine ⟨?_, ?_, ?_⟩
  · rintro u (⟨rfl, rfl⟩ | ⟨rfl, rfl⟩) <;> exact ⟨_, rfl, branchesOnOrder_of (by decide) _ _ _ rfl⟩
  · rintro u (⟨rfl, rfl⟩ | ⟨rfl, rfl⟩) <;> exact ⟨_, rfl, branchesOnOrder_of (by decide) _ _ _ rfl⟩
  · rintro u (⟨rfl, rfl⟩ | ⟨rfl, rfl⟩) <;> exact ⟨_, rfl, branchesOnOrder_of (by decide) _ _ _ rfl⟩

end Sys2Proof.Machine

/-! ### Division (R198 to R201) and decimal adjustment (R196, R197) -/

namespace Sys2Proof.Machine

theorem toNat_append_eq {m k : Nat} (x : BitVec m) (y : BitVec k) :
    (x ++ y).toNat = x.toNat * 2 ^ k + y.toNat := by
  rw [BitVec.toNat_append, ← Nat.shiftLeft_add_eq_or_of_lt y.isLt, Nat.shiftLeft_eq]

theorem append_ofNat_halves {n q r : Nat} (hq : q < 2 ^ n) (hr : r < 2 ^ n) :
    (BitVec.ofNat n r ++ BitVec.ofNat n q).toNat % 2 ^ n = q ∧
      (BitVec.ofNat n r ++ BitVec.ofNat n q).toNat / 2 ^ n = r := by
  have hp : 0 < 2 ^ n := by positivity
  rw [toNat_append_eq, BitVec.toNat_ofNat, BitVec.toNat_ofNat, Nat.mod_eq_of_lt hq, Nat.mod_eq_of_lt hr]
  refine ⟨by rw [Nat.mul_add_mod', Nat.mod_eq_of_lt hq], ?_⟩
  rw [Nat.add_comm, Nat.add_mul_div_right _ _ hp, Nat.div_eq_of_lt hq, Nat.zero_add]

/-- Settles O32: where the quotient fits, both halves hold what they are given. -/
theorem divideUnsigned : Obligations.DivideUnsigned := by
  intro s p x y n
  refine ⟨⟨_, resultW_of_modifyW (k := 1) rfl rfl (ccrIs_flagsNZ _ _), fun h0 hq => ?_⟩,
    ⟨_, resultL_of_modifyL (k := 1) rfl rfl (ccrIs_flagsNZ _ _), fun h0 hq => ?_⟩⟩
  · have hr : (s.reg16 y).toNat % (s.reg8 p).toNat < 2 ^ 8 :=
      (Nat.mod_lt _ (Nat.pos_of_ne_zero h0)).trans (s.reg8 p).isLt
    simp only [aluDivxuB, if_pos (And.intro h0 hq)]
    exact append_ofNat_halves (n := 8) hq hr
  · have hr : (s.reg32 n).toNat % (s.reg16 x).toNat < 2 ^ 16 :=
      (Nat.mod_lt _ (Nat.pos_of_ne_zero h0)).trans (s.reg16 x).isLt
    simp only [aluDivxuW, if_pos (And.intro h0 hq)]
    exact append_ofNat_halves (n := 16) hq hr

/-! ### DIVXS: truncation toward zero -/

theorem ccrIs_flagsDivxs {n m : Nat} (free : Long) (x : BitVec n) (y : BitVec m) (ccr : Byte) :
    CcrIs ccr (flagsDivxs free x.toInt y.toInt ccr) none (some (divxsN free x.toInt y.toInt)) (some (y == 0)) none
      none := by
  have hz : (y == 0) = decide (y.toInt = 0) := by
    rw [Bool.eq_iff_iff, beq_iff_eq, decide_eq_true_iff, ← BitVec.toInt_inj]
    simp
  rw [hz]
  constructor <;> simp [flagsDivxs]

/-- N is the sign of the quotient where there is one that is not 0, or is 0 with equal signs of the operands. -/
theorem divxsN_of {a d : Int} (free : Long) (hd : d ≠ 0) :
    (a.tdiv d ≠ 0 → divxsN free a d = decide (a.tdiv d < 0)) ∧
      (a.tdiv d = 0 → (a < 0 ↔ d < 0) → divxsN free a d = false) := by
  refine ⟨fun hq => ?_, fun hq hs => ?_⟩
  · simp [divxsN, hd, hq]
  · simp [divxsN, hd, hq, hs]

/-- A remainder is smaller than the divisor, so it fits where the divisor does. -/
theorem tmod_fits {n : Nat} {a : Int} {d : BitVec n} (hd : d.toInt ≠ 0) :
    -2 ^ (n - 1) ≤ a.tmod d.toInt ∧ a.tmod d.toInt < 2 ^ (n - 1) := by
  have hlt : (a.tmod d.toInt).natAbs < d.toInt.natAbs := by
    rw [Int.natAbs_tmod]
    exact Nat.mod_lt _ (Int.natAbs_pos.mpr hd)
  have hle := BitVec.le_toInt d
  have hgt := BitVec.toInt_lt (x := d)
  omega

theorem sub_tdiv_mul (a d : Int) : a - a.tdiv d * d = a.tmod d := by
  have := Int.mul_tdiv_add_tmod a d
  rw [Int.mul_comm] at this
  omega

theorem append_ofInt_halves {n : Nat} (hn : 0 < n) {q r : Int} (hq : -2 ^ (n - 1) ≤ q ∧ q < 2 ^ (n - 1))
    (hr : -2 ^ (n - 1) ≤ r ∧ r < 2 ^ (n - 1)) :
    ((BitVec.ofInt n r ++ BitVec.ofInt n q).extractLsb' 0 n).toInt = q ∧
      ((BitVec.ofInt n r ++ BitVec.ofInt n q).extractLsb' n n).toInt = r := by
  rw [BitVec.extractLsb'_append_eq_right, BitVec.extractLsb'_append_eq_left]
  exact ⟨toInt_ofInt_of_fits hn hq, toInt_ofInt_of_fits hn hr⟩

/-- Settles O33: where the quotient fits, both halves hold what they are given, and the remainder always fits. -/
theorem divideSigned : Obligations.DivideSigned := by
  intro s p x y n
  refine ⟨⟨_, _, resultW_of_modifyW (k := 2) rfl rfl (ccrIs_flagsDivxs _ _ _ _), fun h0 hge hle => ?_,
      fun h0 => (divxsN_of _ h0).1, fun h0 => (divxsN_of _ h0).2⟩,
    ⟨_, _, resultL_of_modifyL (k := 2) rfl rfl (ccrIs_flagsDivxs _ _ _ _), fun h0 hge hle => ?_,
      fun h0 => (divxsN_of _ h0).1, fun h0 => (divxsN_of _ h0).2⟩⟩
  · simp only [aluDivxsB, if_pos (And.intro h0 (And.intro hge hle)), sub_tdiv_mul]
    exact append_ofInt_halves (n := 8) (by decide) ⟨hge, by omega⟩ (tmod_fits h0)
  · simp only [aluDivxsW, if_pos (And.intro h0 (And.intro hge hle)), sub_tdiv_mul]
    exact append_ofInt_halves (n := 16) (by decide) ⟨hge, by omega⟩ (tmod_fits h0)

/-! ### Packed BCD -/

theorem bcd_toNat {k : Nat} (hk : k < 100) : (bcd k).toNat = k / 10 * 16 + k % 10 := by
  rw [bcd, BitVec.toNat_ofNat]
  exact Nat.mod_eq_of_lt (by omega)

/-- A row of an adjustment table matches on C, H and the two digits. -/
theorem matches_iff (row : AdjustRow) (d ccr : Byte) :
    row.matches d ccr = true ↔ row.cBefore = getFlag ccr .C ∧ row.hBefore = getFlag ccr .H ∧
      row.upperMin ≤ d.toNat / 16 ∧ d.toNat / 16 ≤ row.upperMax ∧
      row.lowerMin ≤ d.toNat % 16 ∧ d.toNat % 16 ≤ row.lowerMax := by
  have hd := d.isLt
  have hu : (d.extractLsb' 4 4).toNat = d.toNat / 16 := by
    simp [BitVec.extractLsb'_toNat, Nat.shiftRight_eq_div_pow]
    omega
  have hl : (d.extractLsb' 0 4).toNat = d.toNat % 16 := by simp [BitVec.extractLsb'_toNat]
  simp [AdjustRow.matches, hu, hl, and_assoc]

/-- What the first row that matches C, H and a byte makes of the byte and C. -/
def lookup (table : List AdjustRow) (c h : Bool) (d : Byte) : Option (Byte × Bool) :=
  (table.find? fun row => row.cBefore == c && row.hBefore == h && row.upperMin ≤ d.toNat / 16 &&
    d.toNat / 16 ≤ row.upperMax && row.lowerMin ≤ d.toNat % 16 && d.toNat % 16 ≤ row.lowerMax).map
    fun row => (d + row.add, row.cAfter)

theorem adjusted_of_lookup {table : List AdjustRow} {d ccr : Byte} {r : Byte × Bool} (free : Long)
    (h : lookup table (getFlag ccr .C) (getFlag ccr .H) d = some r) : adjusted table free d ccr = r := by
  have hm : (fun row : AdjustRow => row.matches d ccr) = fun row => row.cBefore == getFlag ccr .C &&
      row.hBefore == getFlag ccr .H && row.upperMin ≤ d.toNat / 16 && d.toNat / 16 ≤ row.upperMax &&
      row.lowerMin ≤ d.toNat % 16 && d.toNat % 16 ≤ row.lowerMax := by
    funext row
    rw [Bool.eq_iff_iff, matches_iff]
    simp [and_assoc]
  rw [lookup, ← hm] at h
  rw [adjusted]
  cases hf : table.find? fun row => row.matches d ccr with
  | none => rw [hf] at h; cases h
  | some row => rw [hf] at h; exact Option.some.inj h

/-- The table of DAA on the sum of two bytes whose decimal sum has the digits `x` and `y`, with the decimal carries `e`
out of the lower and `f` out of the upper digit: the four carries of 100 digit pairs. -/
theorem lookup_daa : ∀ (x y : Fin 10) (e f : Bool), cinOf e ≤ 10 * cinOf f + y.val → 10 * cinOf f + y.val ≤ 18 + cinOf e →
    lookup daaTable (decide (256 ≤ 160 * cinOf f + 16 * y.val + x.val - 6 * cinOf e)) (decide (16 ≤ 10 * cinOf e + x.val))
      (BitVec.ofNat 8 (160 * cinOf f + 16 * y.val + x.val - 6 * cinOf e)) = some (bcd (10 * y.val + x.val), f) := by
  decide +kernel

/-- The table of DAS on the difference of two bytes whose decimal difference has the digits `x` and `y`, with the decimal
borrows `e` out of the lower and `f` out of the upper digit. -/
theorem lookup_das : ∀ (x y : Fin 10) (e f : Bool), y.val + cinOf e ≤ 9 + 10 * cinOf f →
    10 * cinOf f ≤ 9 + y.val + cinOf e →
    lookup dasTable f e (BitVec.ofNat 8 (256 + 16 * y.val + x.val + 6 * cinOf e - 160 * cinOf f)) =
      some (bcd (10 * y.val + x.val), f) := by
  decide +kernel

theorem cinOf_true : cinOf true = 1 := rfl

theorem cinOf_false : cinOf false = 0 := rfl

/-- A number below 20 is a digit and a carry. -/
theorem digit_and_carry {k : Nat} (hk : k < 20) : ∃ (x : Fin 10) (e : Bool), k = 10 * cinOf e + x.val := by
  by_cases h : k < 10
  · exact ⟨⟨k, h⟩, false, by simp [cinOf]⟩
  · exact ⟨⟨k - 10, by omega⟩, true, by simp [cinOf]; omega⟩

/-- DAA on the binary sum of two packed-BCD bytes. -/
theorem adjusted_daa {a b c : Nat} {d ccr : Byte} (free : Long) (ha : a < 100) (hb : b < 100) (hc : c ≤ 1)
    (hd : d = BitVec.ofNat 8 ((bcd a).toNat + (bcd b).toNat + c))
    (hH : getFlag ccr .H = decide (16 ≤ a % 10 + b % 10 + c))
    (hC : getFlag ccr .C = decide (256 ≤ (bcd a).toNat + (bcd b).toNat + c)) :
    adjusted daaTable free d ccr = (bcd ((a + b + c) % 100), decide (100 ≤ a + b + c)) := by
  obtain ⟨x, e, hx⟩ := digit_and_carry (k := a % 10 + b % 10 + c) (by omega)
  have he := cinOf_le e
  obtain ⟨y, f, hy⟩ := digit_and_carry (k := a / 10 + b / 10 + cinOf e) (by omega)
  have hsum : a + b + c = 100 * cinOf f + (10 * y.val + x.val) := by omega
  have hbin : (bcd a).toNat + (bcd b).toNat + c = 160 * cinOf f + 16 * y.val + x.val - 6 * cinOf e := by
    rw [bcd_toNat ha, bcd_toNat hb]
    omega
  have hmod : (a + b + c) % 100 = 10 * y.val + x.val := by omega
  have hcarry : decide (100 ≤ a + b + c) = f := by
    have := y.isLt
    cases f <;> simp only [cinOf_true, cinOf_false, decide_eq_true_eq, decide_eq_false_iff_not] at hsum ⊢ <;> omega
  rw [hmod, hcarry, hd, hbin]
  refine adjusted_of_lookup free ?_
  rw [hH, hC, hx, hbin]
  exact lookup_daa x y e f (by omega) (by omega)

/-- A digit less a number up to 10 is a digit and a borrow. -/
theorem digit_and_borrow {m n : Nat} (hm : m < 10) (hn : n ≤ 10) :
    ∃ (x : Fin 10) (e : Bool), e = decide (m < n) ∧ m + 10 * cinOf e = n + x.val := by
  by_cases h : m < n
  · exact ⟨⟨m + 10 - n, by omega⟩, true, by simp [h], by simp [cinOf]; omega⟩
  · exact ⟨⟨m - n, by omega⟩, false, by simp [h], by simp [cinOf]; omega⟩

/-- DAS on the binary difference of two packed-BCD bytes. -/
theorem adjusted_das {a b c : Nat} {d ccr : Byte} (free : Long) (ha : a < 100) (hb : b < 100) (hc : c ≤ 1)
    (hd : d = BitVec.ofNat 8 (256 + (bcd a).toNat - ((bcd b).toNat + c)))
    (hH : getFlag ccr .H = decide (a % 10 < b % 10 + c))
    (hC : getFlag ccr .C = decide ((bcd a).toNat < (bcd b).toNat + c)) :
    adjusted dasTable free d ccr = (bcd ((a + 100 - (b + c)) % 100), decide (a < b + c)) := by
  obtain ⟨x, e, he, hx⟩ := digit_and_borrow (m := a % 10) (n := b % 10 + c) (by omega) (by omega)
  have hle := cinOf_le e
  obtain ⟨y, f, -, hy⟩ := digit_and_borrow (m := a / 10) (n := b / 10 + cinOf e) (by omega) (by omega)
  have hle' := cinOf_le f
  have hdec : a + 100 * cinOf f = b + c + (10 * y.val + x.val) := by omega
  have hbin : (bcd a).toNat + 160 * cinOf f = (bcd b).toNat + c + (16 * y.val + x.val + 6 * cinOf e) := by
    rw [bcd_toNat ha, bcd_toNat hb]
    omega
  have hmod : (a + 100 - (b + c)) % 100 = 10 * y.val + x.val := by omega
  have hnum : 256 + (bcd a).toNat - ((bcd b).toNat + c) =
      256 + 16 * y.val + x.val + 6 * cinOf e - 160 * cinOf f := by omega
  have hborrow : decide (a < b + c) = f := by
    cases f <;> simp only [cinOf_true, cinOf_false, decide_eq_true_eq, decide_eq_false_iff_not] at hdec ⊢ <;> omega
  have hborrow' : decide ((bcd a).toNat < (bcd b).toNat + c) = f := by
    cases f <;> simp only [cinOf_true, cinOf_false, decide_eq_true_eq, decide_eq_false_iff_not] at hbin ⊢ <;> omega
  rw [hmod, hborrow, hd, hnum]
  refine adjusted_of_lookup free ?_
  rw [hH, hC, ← he, hborrow']
  exact lookup_das x y e f (by omega) (by omega)

theorem bcd_mod_sixteen {k : Nat} (hk : k < 100) : (bcd k).toNat % 2 ^ (8 - 4) = k % 10 := by
  rw [bcd_toNat hk]
  omega

theorem resultB_of_aluAdjust {table : List AdjustRow} {rd : Reg8} {s : State} {i : Instr}
    (he : exec i s = modifyB (aluAdjust table s.freeDraw) rd 2 (s.drawn 1)) :
    ResultB i 2 s rd (adjusted table s.freeDraw (s.reg8 rd) s.ccr).1 (some (s.freeDraw.getLsbD 9))
      (some (adjusted table s.freeDraw (s.reg8 rd) s.ccr).1.msb)
      (some ((adjusted table s.freeDraw (s.reg8 rd) s.ccr).1 == 0)) (some (s.freeDraw.getLsbD 10))
      (some (adjusted table s.freeDraw (s.reg8 rd) s.ccr).2) :=
  resultB_of_modifyB he rfl (ccrIs_arithmetic _ _ _ _ _)

/-- An addition of two packed-BCD bytes and DAA after it. -/
theorem daa_after_add {i : Instr} {s : State} {rd : Reg8} {a b : Nat} {u : Byte} {cin : Bool} {n z v : Option Bool}
    (ha : a < 100) (hb : b < 100) (hd : s.reg8 rd = bcd a) (hu : u = bcd b)
    (h : ResultB i 2 s rd (sumOf (s.reg8 rd) u cin) (some (addH (s.reg8 rd) u cin)) n z v
      (some (addC (s.reg8 rd) u cin))) :
    ∃ t w, exec i s = .next t ∧ exec (.daa rd) t = .next w ∧ w.reg8 rd = bcd ((a + b + cinOf cin) % 100) ∧
      w.flag .C = decide (100 ≤ a + b + cinOf cin) := by
  obtain ⟨t, ht, hr, -, -, ⟨-, -, -, hH, -, -, -, hC⟩, -, -⟩ := h
  obtain ⟨w, hw, hrw, -, -, ⟨-, -, -, -, -, -, -, hCw⟩, -, -⟩ := resultB_of_aluAdjust (s := t) (i := .daa rd) rfl
  subst hu
  rw [hd] at hr hH hC
  have hadj := adjusted_daa (d := t.reg8 rd) (ccr := t.ccr) t.freeDraw ha hb (cinOf_le cin)
    hr
    (by rw [hH, addH, bcd_mod_sixteen ha, bcd_mod_sixteen hb]; rfl) (by rw [hC]; rfl)
  rw [hadj] at hrw hCw
  exact ⟨t, w, ht, hw, hrw, hCw⟩

/-- A subtraction of two packed-BCD bytes and DAS after it. -/
theorem das_after_sub {i : Instr} {s : State} {rd : Reg8} {a b : Nat} {x u : Byte} {cin : Bool} {n z v : Option Bool}
    (ha : a < 100) (hb : b < 100) (hd : x = bcd a) (hu : u = bcd b)
    (h : ResultB i 2 s rd (differenceOf x u cin) (some (subH x u cin)) n z v (some (subC x u cin))) :
    ∃ t w, exec i s = .next t ∧ exec (.das rd) t = .next w ∧
      w.reg8 rd = bcd ((a + 100 - (b + cinOf cin)) % 100) ∧ w.flag .C = decide (a < b + cinOf cin) := by
  obtain ⟨t, ht, hr, -, -, ⟨-, -, -, hH, -, -, -, hC⟩, -, -⟩ := h
  obtain ⟨w, hw, hrw, -, -, ⟨-, -, -, -, -, -, -, hCw⟩, -, -⟩ := resultB_of_aluAdjust (s := t) (i := .das rd) rfl
  subst hu hd
  have hlt := (bcd b).isLt
  have hlt' := (bcd a).isLt
  have hc := cinOf_le cin
  have hdiff := differenceOf_toNat (bcd a) (bcd b) cin
  have hadj := adjusted_das (d := t.reg8 rd) (ccr := t.ccr) t.freeDraw ha hb hc
    (by
      rw [hr]
      refine BitVec.eq_of_toNat_eq ?_
      rw [BitVec.toNat_ofNat]
      split at hdiff <;> omega)
    (by rw [hH, subH, bcd_mod_sixteen ha, bcd_mod_sixteen hb]; rfl) (by rw [hC]; rfl)
  rw [hadj] at hrw hCw
  exact ⟨t, w, ht, hw, hrw, hCw⟩

/-- Settles O34: the adjustment tables make a binary sum or difference of packed BCD decimal. -/
theorem decimalArithmetic : Obligations.DecimalArithmetic := by
  refine ⟨?_, fun s rs rd a b c u i ha hb hd hu => ⟨?_, ?_, ?_⟩⟩
  · rintro s rd i (rfl | rfl)
    · exact ⟨_, _, _, _, resultB_of_aluAdjust rfl⟩
    · exact ⟨_, _, _, _, resultB_of_aluAdjust rfl⟩
  · obtain ⟨hadd, -⟩ := addAndSubtract s u 0 0 rs rd (.r 0) (.r 0) 0 0
    obtain ⟨haddx, -⟩ := addAndSubtractWithCarry s u rs rd i u
    rintro (⟨rfl, rfl⟩ | ⟨rfl, hr, rfl⟩ | ⟨rfl, rfl⟩ | ⟨rfl, hr, rfl⟩)
    · exact daa_after_add (a := a) (b := b) (cin := false) ha hb hd hu (hadd _ u (.inl ⟨rfl, rfl⟩))
    · exact daa_after_add (a := a) (b := b) (cin := false) ha hb hd hu (hadd _ u (.inr ⟨rfl, hr.symm⟩))
    · exact daa_after_add (cin := s.flag .C) ha hb hd hu (haddx (.inl ⟨rfl, rfl⟩))
    · exact daa_after_add (cin := s.flag .C) ha hb hd hu (haddx (.inr ⟨rfl, hr.symm⟩))
  · obtain ⟨-, -, -, hsub, -⟩ := addAndSubtract s u 0 0 rs rd (.r 0) (.r 0) 0 0
    obtain ⟨-, hsubx⟩ := addAndSubtractWithCarry s u rs rd i u
    rintro (⟨rfl, hr, rfl⟩ | ⟨rfl, rfl⟩ | ⟨rfl, hr, rfl⟩)
    · exact das_after_sub (cin := false) ha hb hd (hr.trans hu) hsub
    · exact das_after_sub (cin := s.flag .C) ha hb hd hu (hsubx (.inl ⟨rfl, rfl⟩))
    · exact das_after_sub (cin := s.flag .C) ha hb hd hu (hsubx (.inr ⟨rfl, hr.symm⟩))
  · have hneg : ResultB (.negB rd) 2 s rd (differenceOf 0 (s.reg8 rd) false) (some (subH 0 (s.reg8 rd) false)) _ _ _
        (some (subC 0 (s.reg8 rd) false)) :=
      resultB_of_modifyB (k := 0) rfl (difference_eq_differenceOf _ _ _) (ccrIs_flagsSub (by decide) _ _ _ _)
    simpa [cinOf] using das_after_sub (a := 0) (by decide) ha rfl hd hneg

end Sys2Proof.Machine

/-! ### Reads and loads (R75 to R78, R150, R270, R325) -/

namespace Sys2Proof.Machine

/-- `t` is `s` after reads: only the record of ISR reads, the calls and answers of devices, and the count of free values
may differ. -/
def ReadsTo (s t : State) : Prop :=
  ∃ r d c k, t = { s with isrRead := r, deviceAnswers := d, deviceCalls := c, draws := k }

theorem ReadsTo.refl (s : State) : ReadsTo s s := ⟨_, _, _, _, Eq.refl s⟩

theorem ReadsTo.trans {s t u : State} (h : ReadsTo s t) (h' : ReadsTo t u) : ReadsTo s u := by
  obtain ⟨r, d, c, k, rfl⟩ := h
  obtain ⟨r', d', c', k', rfl⟩ := h'
  exact ⟨r', d', c', k', Eq.refl _⟩

theorem readsTo_noteRead (s : State) (a : Addr) : ReadsTo s (s.noteRead a) := noteRead_eq s a

theorem readsTo_of_readByte {s t : State} {a : Addr} {v : Byte} (h : s.readByte a = .ok (v, t)) : ReadsTo s t := by
  rw [(readByte_ok h).2]
  exact readsTo_noteRead s a

theorem readsTo_of_readWord {s t : State} {a : Addr} {v : Word} (h : s.readWord a = .ok (v, t)) : ReadsTo s t := by
  rcases readWord_ok h with ⟨-, -, rfl⟩ | ⟨-, hi, lo, s1, h1, h2, -⟩
  · exact ⟨_, _, _, _, Eq.refl _⟩
  · exact (readsTo_of_readByte h1).trans (readsTo_of_readByte h2)

theorem readsTo_of_readLong {s t : State} {a : Addr} {v : Long} (h : s.readLong a = .ok (v, t)) : ReadsTo s t := by
  obtain ⟨hi, lo, s1, h1, h2, -⟩ := readLong_ok h
  exact (readsTo_of_readWord h1).trans (readsTo_of_readWord h2)

/-- Reads, and then changes of general registers, PC, CCR and the hold-off, leave everything else as the reads do. -/
theorem ReadsTo.frame {s s1 t : State} (h : ReadsTo s s1)
    (ht : t = { s1 with er := t.er, pc := t.pc, ccr := t.ccr, irqInhibit := t.irqInhibit }) :
    SameInputs s t ∧ SameControl s1 t ∧ SameDevices s1 t ∧ SameProcessing s t ∧ SameMemory s t := by
  obtain ⟨r, d, a, k, rfl⟩ := h
  rw [ht]
  refine ⟨⟨rfl, rfl, rfl, rfl, rfl, rfl, rfl, rfl, rfl⟩, ⟨rfl, rfl, rfl, rfl, rfl, rfl, rfl⟩, ⟨rfl, rfl⟩,
    ⟨rfl, rfl, rfl, rfl⟩, sameMemory_of rfl rfl rfl rfl ?_⟩
  funext r
  cases r <;> rfl

theorem ReadsTo.reg32 {s t : State} (h : ReadsTo s t) (n : RegNum) : t.reg32 n = s.reg32 n := by
  obtain ⟨r, d, c, k, rfl⟩ := h
  rfl

theorem ReadsTo.pc {s t : State} (h : ReadsTo s t) : t.pc = s.pc := by
  obtain ⟨r, d, c, k, rfl⟩ := h
  rfl

theorem ReadsTo.ccr {s t : State} (h : ReadsTo s t) : t.ccr = s.ccr := by
  obtain ⟨r, d, c, k, rfl⟩ := h
  rfl

theorem ReadsTo.irqInhibit {s t : State} (h : ReadsTo s t) : t.irqInhibit = s.irqInhibit := by
  obtain ⟨r, d, c, k, rfl⟩ := h
  rfl

/-! ### The address register (R83 to R87) -/

/-- The mode does not decrement its register: the modes of a load. -/
def Mode.ofLoad (m : Mode) : Prop := ∀ n, m ≠ .preDec n

theorem regsAfterMode_postIncrement {m : Mode} (hm : m.ofLoad) (nb : Nat) {s s1 : State} (hr : ∀ n, s1.reg32 n = s.reg32 n)
    (n : RegNum) : RegsAfterMode m nb s (s1.postIncrement nb m) n := by
  cases m with
  | preDec k => exact absurd rfl (hm k)
  | postInc k =>
    by_cases h : n = k
    · subst h
      simp [RegsAfterMode, State.postIncrement, hr]
    · simp [RegsAfterMode, State.postIncrement, reg32_setReg32_other _ _ h, hr, Ne.symm h]
  | ind k | disp16 d k | disp24 d k | abs8 a | abs16 a | abs24 a => simp [RegsAfterMode, State.postIncrement, hr]

/-- The register of a mode is no other register. -/
theorem postIncrement_reg32_of_modifies {m : Mode} {k : RegNum} (h : m.modifies ≠ some k) (s : State) (nb : Nat) :
    (s.postIncrement nb m).reg32 k = s.reg32 k := by
  cases m with
  | postInc n => exact reg32_setReg32_other s _ fun e => h (by rw [e]; rfl)
  | ind k | disp16 d k | disp24 d k | preDec n | abs8 a | abs16 a | abs24 a => rfl

theorem regsAfterMode_congr {m : Mode} {nb : Nat} {s t u : State} {n : RegNum} (h : u.reg32 n = t.reg32 n) :
    RegsAfterMode m nb s u n ↔ RegsAfterMode m nb s t n := by
  rw [RegsAfterMode, RegsAfterMode, h]

/-! ### Loads -/

theorem check_of {m : Mode} {n : RegNum} (h : m.modifies ≠ some n) : m.check n = .ok () := check_ok.mpr h

theorem loadsB_of {i : Instr} {len : Nat} {m : Mode} {rd : Reg8} {s : State} (he : exec i s = loadB m rd len s)
    (hm : m.ofLoad) : LoadsB i len m rd s := by
  intro hrd
  have hload : exec i s = finish (s.readByte (s.ea 1 m) >>= fun r =>
      return (((r.2.postIncrement 1 m).setReg8 rd r.1).setCcr (flagsNZ0 r.1 s.ccr)).advance len) := by
    rw [he, loadB, check_of hrd]
    rfl
  refine ⟨fun why h => by rw [hload, h]; rfl, fun v s1 h => ?_⟩
  have hread := readsTo_of_readByte h
  have hsame := postIncrement_reg32_of_modifies hrd s1 1
  obtain ⟨e, hinc⟩ := postIncrement_eq s1 1 m
  obtain ⟨hin, hco, hde, hpr, hme⟩ := hread.frame
    (t := (((s1.postIncrement 1 m).setReg8 rd v).setCcr (flagsNZ0 v s.ccr)).advance len) (by rw [hinc]; rfl)
  refine ⟨_, by rw [hload, h]; rfl, by simp, fun q hq hn => ?_, ?_, fun n hn => ?_, ccrIs_flagsNZ0 v s.ccr, ?_,
    hin, hco, hde, hpr, hme, by rw [hinc]; exact hread.irqInhibit⟩
  · simp only [State.advance_reg8, State.setCcr_reg8, reg8_setReg8_other _ _ hq]
    exact reg8_congr_at q (by rw [hn, hsame, hread.reg32])
  · simp only [State.advance_reg16, State.setCcr_reg16, upper_setReg8]
    exact reg16_congr_at (.e rd.num) (hsame.trans (hread.reg32 _))
  · exact (regsAfterMode_congr (reg32_setReg8_other _ _ _ hn)).mpr (regsAfterMode_postIncrement hm 1 hread.reg32 n)
  · rw [hinc, PcAfter, ← hread.pc]
    rfl

theorem loadsW_of {i : Instr} {len : Nat} {m : Mode} {rd : Reg16} {s : State} (he : exec i s = loadW m rd len s)
    (hm : m.ofLoad) : LoadsW i len m rd s := by
  intro hrd
  have hload : exec i s = finish (s.readWord (s.ea 2 m) >>= fun r =>
      return (((r.2.postIncrement 2 m).setReg16 rd r.1).setCcr (flagsNZ0 r.1 s.ccr)).advance len) := by
    rw [he, loadW, check_of hrd]
    rfl
  refine ⟨fun why h => by rw [hload, h]; rfl, fun v s1 h => ?_⟩
  have hread := readsTo_of_readWord h
  have hsame := postIncrement_reg32_of_modifies hrd s1 2
  obtain ⟨e, hinc⟩ := postIncrement_eq s1 2 m
  obtain ⟨hin, hco, hde, hpr, hme⟩ := hread.frame
    (t := (((s1.postIncrement 2 m).setReg16 rd v).setCcr (flagsNZ0 v s.ccr)).advance len) (by rw [hinc]; rfl)
  refine ⟨_, by rw [hload, h]; rfl, by simp, fun q hq hn => ?_, fun n hn => ?_, ccrIs_flagsNZ0 v s.ccr, ?_,
    hin, hco, hde, hpr, hme, by rw [hinc]; exact hread.irqInhibit⟩
  · simp only [State.advance_reg16, State.setCcr_reg16, reg16_setReg16_other _ _ hq]
    exact reg16_congr_at q (by rw [hn, hsame, hread.reg32])
  · exact (regsAfterMode_congr (reg32_setReg16_other _ _ _ hn)).mpr (regsAfterMode_postIncrement hm 2 hread.reg32 n)
  · rw [hinc, PcAfter, ← hread.pc]
    rfl

theorem loadsL_of {i : Instr} {len : Nat} {m : Mode} {rd : RegNum} {s : State} (he : exec i s = loadL m rd len s)
    (hm : m.ofLoad) : LoadsL i len m rd s := by
  intro hrd
  have hload : exec i s = finish (s.readLong (s.ea 4 m) >>= fun r =>
      return (((r.2.postIncrement 4 m).setReg32 rd r.1).setCcr (flagsNZ0 r.1 s.ccr)).advance len) := by
    rw [he, loadL, check_of hrd]
    rfl
  refine ⟨fun why h => by rw [hload, h]; rfl, fun v s1 h => ?_⟩
  have hread := readsTo_of_readLong h
  obtain ⟨e, hinc⟩ := postIncrement_eq s1 4 m
  obtain ⟨hin, hco, hde, hpr, hme⟩ := hread.frame
    (t := (((s1.postIncrement 4 m).setReg32 rd v).setCcr (flagsNZ0 v s.ccr)).advance len) (by rw [hinc]; rfl)
  refine ⟨_, by rw [hload, h]; rfl, by simp, fun n hn => ?_, ccrIs_flagsNZ0 v s.ccr, ?_,
    hin, hco, hde, hpr, hme, by rw [hinc]; exact hread.irqInhibit⟩
  · exact (regsAfterMode_congr (reg32_setReg32_other _ _ hn)).mpr (regsAfterMode_postIncrement hm 4 hread.reg32 n)
  · rw [hinc, PcAfter, ← hread.pc]
    rfl

/-- Settles O18: each form is a byte load with its mode. -/
theorem loadByte : Obligations.LoadByte := fun _ _ _ _ _ _ =>
  ⟨loadsB_of rfl nofun, loadsB_of rfl nofun, loadsB_of rfl nofun, loadsB_of rfl nofun, loadsB_of rfl nofun,
    loadsB_of rfl nofun, loadsB_of rfl nofun⟩

/-- Settles O19: each form is a word load with its mode. -/
theorem loadWord : Obligations.LoadWord := fun _ _ _ _ _ =>
  ⟨loadsW_of rfl nofun, loadsW_of rfl nofun, loadsW_of rfl nofun, loadsW_of rfl nofun, loadsW_of rfl nofun,
    loadsW_of rfl nofun, loadsW_of rfl nofun⟩

/-- Settles O20: each form is a longword load with its mode. -/
theorem loadLong : Obligations.LoadLong := fun _ _ _ _ _ =>
  ⟨loadsL_of rfl nofun, loadsL_of rfl nofun, loadsL_of rfl nofun, loadsL_of rfl nofun, loadsL_of rfl nofun,
    loadsL_of rfl nofun, loadsL_of rfl nofun⟩

/-! ### LDC, ANDC, ORC, XORC (R323 to R330) -/

/-- What a write of CCR by an instruction of two bytes answers. -/
theorem writeCcr_effect {i : Instr} {s : State} {v : Byte} (he : exec i s = writeCcr v 2 s) :
    ∃ t, exec i s = .next t ∧ t.ccr = v ∧ t.irqInhibit = true ∧ SameRegs s t ∧ PcAfter 2 s t ∧ SameInputs s t ∧
      SameControl s t ∧ SameDevices s t ∧ SameProcessing s t ∧ SameMemory s t :=
  ⟨_, he, rfl, rfl, fun _ => rfl, rfl, (ReadsTo.refl s).frame rfl⟩

theorem loadCcr_effect {i : Instr} {len : Nat} {m : Mode} {s : State} (he : exec i s = loadCcr m len s)
    (hm : m.ofLoad) :
    (∀ why, s.readWord (s.ea 2 m) = .error why → exec i s = finish (.error why)) ∧
      (∀ w s1, s.readWord (s.ea 2 m) = .ok (w, s1) →
        ∃ t, exec i s = .next t ∧ t.ccr = w.extractLsb' 8 8 ∧ t.irqInhibit = true ∧
          (∀ k, RegsAfterMode m 2 s t k) ∧ PcAfter len s t ∧ SameInputs s t ∧ SameControl s1 t ∧ SameDevices s1 t ∧
          SameProcessing s t ∧ SameMemory s t) := by
  refine ⟨fun why h => by rw [he, loadCcr, h]; rfl, fun w s1 h => ?_⟩
  have hread := readsTo_of_readWord h
  obtain ⟨e, hinc⟩ := postIncrement_eq s1 2 m
  have hnext : exec i s = .next (((s1.postIncrement 2 m).setCcr (w.extractLsb' 8 8)).advance len).holdOff := by
    rw [he, loadCcr, h]
    rfl
  refine ⟨_, hnext, rfl, rfl,
    fun k => (regsAfterMode_congr rfl).mpr (regsAfterMode_postIncrement hm 2 hread.reg32 k), ?_,
    hread.frame (by rw [hinc]; rfl)⟩
  rw [hinc, PcAfter, ← hread.pc]
  rfl

/-! ### Bits of memory that are only tested (R270, R275 to R283) -/

/-- Reading the operand of a bit instruction in memory is one byte read. -/
theorem testsBit_of {F : Flag} {g : Bool → Bool} {b : BitVec 3} {o : BitOperand} {i : Instr} {s : State} {a : Addr}
    {k : Nat} {z c : Bool → Option Bool} (he : exec i s = testBit F g b o s) (ho : s.readBitOperand o = s.readByte a)
    (hl : o.len = 4) (hk : b.toNat = k)
    (hc : ∀ x, CcrIs s.ccr (setFlag s.ccr F (g x)) none none (z x) none (c x)) : TestsBit i a z c k s := by
  subst hk
  refine ⟨fun why h => by rw [he, testBit, ho, h]; rfl, fun v s1 h => ?_⟩
  have hread := readsTo_of_readByte h
  have hnext : exec i s = .next ((s1.setCcr (setFlag s.ccr F (g (v.getLsbD b.toNat)))).advance 4) := by
    rw [he, testBit, ho, h, hl]
    rfl
  obtain ⟨hin, hco, hde, hpr, hme⟩ := hread.frame
    (t := (s1.setCcr (setFlag s.ccr F (g (v.getLsbD b.toNat)))).advance 4) rfl
  refine ⟨_, hnext, hc _, hread.reg32, ?_, hin, hco, hde, hpr, hme, hread.irqInhibit⟩
  rw [PcAfter, ← hread.pc]
  rfl

theorem testsZ_of {g : Bool → Bool} {b : BitVec 3} {o : BitOperand} {i : Instr} {s : State} {a : Addr} {k : Nat}
    (he : exec i s = testBit .Z g b o s) (ho : s.readBitOperand o = s.readByte a) (hl : o.len = 4) (hk : b.toNat = k) :
    TestsBit i a (fun x => some (g x)) (fun _ => none) k s := testsBit_of he ho hl hk fun _ => ccrIs_setZ _ _

theorem testsC_of {g : Bool → Bool} {b : BitVec 3} {o : BitOperand} {i : Instr} {s : State} {a : Addr} {k : Nat}
    (he : exec i s = testBit .C g b o s) (ho : s.readBitOperand o = s.readByte a) (hl : o.len = 4) (hk : b.toNat = k) :
    TestsBit i a (fun _ => none) (fun x => some (g x)) k s := testsBit_of he ho hl hk fun _ => ccrIs_setC _ _

/-- Settles O41: each form reads one byte and writes one flag from one bit of it and the old C. -/
theorem testBitOfMemory : Obligations.TestBitOfMemory := by
  intro s b rn n aa a e c k no
  have hxor : ∀ x y : Bool, (x != y) = (x ^^ y) := by decide
  have hxnor : ∀ x y : Bool, (x == y) = (x ^^ !y) := by decide
  simp only [hxor, hxnor]
  refine ⟨?_, ?_, ?_, ?_, ?_, ?_, ?_, ?_, ?_, ?_⟩ <;> rintro i f (⟨rfl, rfl⟩ | ⟨rfl, rfl⟩)
  case refine_1.inl => exact testsZ_of (o := .ind n) rfl rfl rfl rfl
  case refine_1.inr => exact testsZ_of (o := .abs8 aa) rfl rfl rfl rfl
  case refine_2.inl => exact testsZ_of (o := .ind n) rfl rfl rfl (bitNumber_toNat s rn)
  case refine_2.inr => exact testsZ_of (o := .abs8 aa) rfl rfl rfl (bitNumber_toNat s rn)
  case refine_3.inl | refine_4.inl | refine_5.inl | refine_6.inl | refine_7.inl | refine_8.inl | refine_9.inl | refine_10.inl =>
    exact testsC_of (o := .ind n) rfl rfl rfl rfl
  all_goals exact testsC_of (o := .abs8 aa) rfl rfl rfl rfl

end Sys2Proof.Machine

namespace Sys2Proof

open Machine in
/-- Settles O47: the forms on CCR write it at once, those on memory with the upper byte of the word read. -/
theorem loadCcr : Obligations.LoadCcr := by
  intro s n d e b p
  refine ⟨?_, ?_⟩
  · rintro i r (⟨rfl, rfl⟩ | ⟨rfl, rfl⟩ | ⟨rfl, rfl⟩ | ⟨rfl, rfl⟩ | ⟨rfl, rfl⟩) <;> exact writeCcr_effect rfl
  · rintro i len m (⟨rfl, rfl, rfl⟩ | ⟨rfl, rfl, rfl⟩ | ⟨rfl, rfl, rfl⟩ | ⟨rfl, rfl, rfl⟩ | ⟨rfl, rfl, rfl⟩ |
      ⟨rfl, rfl, rfl⟩) <;> exact loadCcr_effect rfl nofun

end Sys2Proof

/-! ### Longwords in memory, jumps and returns (R74, R77, R303 to R311, R321) -/

namespace Sys2Proof.Machine

theorem Place.isMemory_iff {p : Place} : p.isMemory = true ↔ ∃ k, p = .ram k ∨ p = .rom k := by
  cases p <;> simp [Place.isMemory]

theorem Place.isDevice_of_isMemory {p : Place} (h : p.isMemory = true) : p.isDevice = false := by
  cases p <;> simp_all [Place.isMemory, Place.isDevice]

/-- Reading memory changes nothing. -/
theorem noteRead_of_isMemory {s : State} {a : Addr} (h : (s.locate a).isMemory = true) : s.noteRead a = s := by
  obtain ⟨k, h⟩ := Place.isMemory_iff.mp h
  exact noteRead_of_cell h

theorem readByte_of_isMemory {s : State} {a : Addr} {v : Byte} (hm : (s.locate a).isMemory = true)
    (hv : s.peekByte a = .ok v) : s.readByte a = .ok (v, s) := by
  rw [readByte_of_peek hv, noteRead_of_isMemory hm]

theorem readWord_of_isMemory {s : State} {a : Addr} {hi lo : Byte} (h0 : (s.locate (evenAddr a)).isMemory = true)
    (h1 : (s.locate (evenAddr a + 1)).isMemory = true) (hv : s.peekByte (evenAddr a) = .ok hi)
    (hw : s.peekByte (evenAddr a + 1) = .ok lo) : s.readWord a = .ok (hi ++ lo, s) := by
  rw [readWord_of_peek (Place.isDevice_of_isMemory h0) hv hw, noteRead_of_isMemory h0, noteRead_of_isMemory h1]

theorem evenAddr_add_two (a : Addr) : evenAddr (evenAddr a + 2) = evenAddr a + 2 := by
  have h := evenAddr_toNat a
  have h2 := evenAddr_toNat (evenAddr a + 2)
  apply BitVec.eq_of_toNat_eq
  rw [h2]
  simp only [BitVec.toNat_add, h, BitVec.ofNat_eq_ofNat, BitVec.toNat_ofNat]
  omega

/-- A longword is its four bytes, most significant first (R74). -/
theorem long_of_bytes (v : Long) :
    (v.extractLsb' 24 8 ++ v.extractLsb' 16 8 ++ (v.extractLsb' 8 8 ++ v.extractLsb' 0 8) : Long) = v := by
  rw [BitVec.extractLsb'_append_extractLsb'_eq_extractLsb' (by rfl),
    BitVec.extractLsb'_append_extractLsb'_eq_extractLsb' (by rfl)]
  exact BitVec.extractLsb'_append_extractLsb' (w := 16) (len := 16)

/-- A longword that memory holds reads as what it is, and the read changes nothing. -/
theorem readLong_of_holds {s : State} {a : Addr} {v : Long} (h : HoldsLong s (evenAddr a) v) :
    s.readLong a = .ok (v, s) := by
  obtain ⟨m0, p0⟩ := h 0 (by decide)
  obtain ⟨m1, p1⟩ := h 1 (by decide)
  obtain ⟨m2, p2⟩ := h 2 (by decide)
  obtain ⟨m3, p3⟩ := h 3 (by decide)
  have hthree : evenAddr a + 2 + 1 = evenAddr a + BitVec.ofNat 24 3 := by rw [BitVec.add_assoc]; rfl
  simp only [BitVec.add_zero] at m0 p0
  have hw : s.readWord (evenAddr a) = .ok (v.extractLsb' 24 8 ++ v.extractLsb' 16 8, s) :=
    readWord_of_isMemory (by rwa [evenAddr_idem]) (by rw [evenAddr_idem]; exact m1) (by rw [evenAddr_idem]; exact p0)
      (by rw [evenAddr_idem]; exact p1)
  have hl : s.readWord (evenAddr a + 2) = .ok (v.extractLsb' 8 8 ++ v.extractLsb' 0 8, s) :=
    readWord_of_isMemory (by rw [evenAddr_add_two]; exact m2) (by rw [evenAddr_add_two, hthree]; exact m3)
      (by rw [evenAddr_add_two]; exact p2) (by rw [evenAddr_add_two, hthree]; exact p3)
  simp only [State.readLong, hw, hl, bind, Except.bind, pure, Except.pure, long_of_bytes]

/-- Settles O44: the target is an operand, or the longword of the table, which reading leaves alone. -/
theorem jumps : Obligations.Jumps := by
  rintro s n a aa v i target (⟨rfl, rfl⟩ | ⟨rfl, rfl⟩ | ⟨rfl, rfl, hv⟩)
  · exact ⟨_, rfl, rfl, fun _ => rfl, rfl, onlyCpu_of_registers s s.er _ s.ccr s.draws⟩
  · exact ⟨_, rfl, rfl, fun _ => rfl, rfl, onlyCpu_of_registers s s.er _ s.ccr s.draws⟩
  · have hnext : exec (.jmpMemInd aa) s = .next (s.setPc (ea24 v)) := by
      change finish (s.readLong (aa.zeroExtend 24) >>= fun r => return r.2.setPc (ea24 r.1)) = _
      rw [readLong_of_holds hv]
      rfl
    exact ⟨_, hnext, rfl, fun _ => rfl, rfl, onlyCpu_of_registers s s.er _ s.ccr s.draws⟩

theorem popLong_of_holds {s : State} {v : Long} (h : HoldsLong s (evenAddr (ea24 (s.reg32 sp))) v) :
    s.popLong = .ok (v, s.setReg32 sp (s.reg32 sp + 4)) := by
  rw [State.popLong, readLong_of_holds h]
  rfl

/-- Settles O46: both returns pop the longword at ER7. -/
theorem returns : Obligations.Returns := by
  intro s v h
  have hpop := popLong_of_holds h
  refine ⟨⟨(s.setReg32 sp (s.reg32 sp + 4)).setPc (ea24 v), ?_, rfl, rfl, by simp, fun m hm => ?_,
      onlyCpu_of_registers s _ _ s.ccr s.draws⟩,
    ⟨((s.setReg32 sp (s.reg32 sp + 4)).setCcr (v.extractLsb' 24 8)).setPc (ea24 v), ?_, rfl, rfl, by simp,
      fun m hm => ?_, onlyCpu_of_registers s _ _ _ s.draws⟩⟩
  · change finish (s.popLong >>= fun r => return r.2.setPc (ea24 r.1)) = _
    rw [hpop]
    rfl
  · simp [reg32_setReg32_other _ _ hm]
  · change finish s.returnFromException = _
    rw [State.returnFromException, hpop]
    rfl
  · simp [reg32_setReg32_other _ _ hm]

/-! ### NOP, SLEEP and the moves that are refused -/

/-- Settles O49: SLEEP only changes the processing state, or resets the modules as well. -/
theorem nopAndSleep : Obligations.NopAndSleep := by
  intro s
  refine ⟨⟨_, rfl, rfl, fun _ => rfl, rfl, onlyCpu_of_registers s s.er _ s.ccr s.draws⟩, (s.advance 2).powerDown, rfl, ?_⟩
  unfold State.powerDown
  have hsel : (s.advance 2).standbySelected = s.syscr.getLsbD 7 := rfl
  rw [hsel]
  cases hb : s.syscr.getLsbD 7 with
  | false =>
    exact ⟨rfl, fun _ => rfl, rfl, ⟨rfl, rfl, rfl, rfl, rfl, rfl, rfl, rfl, rfl⟩, ⟨rfl, rfl⟩, rfl, rfl, rfl, rfl, rfl,
      fun _ => ⟨rfl, ⟨rfl, rfl, rfl, rfl, rfl, rfl, rfl⟩, sameMemory_of rfl rfl rfl rfl (by funext r; cases r <;> rfl), rfl⟩,
      nofun⟩
  | true =>
    exact ⟨rfl, fun _ => rfl, rfl, ⟨rfl, rfl, rfl, rfl, rfl, rfl, rfl, rfl, rfl⟩, ⟨rfl, rfl⟩, rfl, rfl, rfl, rfl, rfl,
      nofun, fun _ => ⟨rfl, fun k hk => resetModules_read (s.advance 2) hk, rfl, rfl, rfl, rfl⟩⟩

/-- A mode that modifies the data register stops the instruction before it begins. -/
theorem check_refused {m : Mode} {n : RegNum} (h : m.modifies = some n) :
    m.check n = .error (.refusal .addressRegisterIsData) := by
  rw [Mode.check, if_pos h]

/-- Settles O24: the check comes first in every load and store. -/
theorem refusedMoves : Obligations.RefusedMoves := by
  intro s n aa p x
  have hload : ∀ (m : Mode) (r : RegNum) (len : Nat), m.modifies = some r →
      loadL m r len s = .refused .addressRegisterIsData := fun m r len h => by rw [loadL, check_refused h]; rfl
  have hstore : ∀ (m : Mode) (r : RegNum) (len : Nat), m.modifies = some r →
      storeL r m len s = .refused .addressRegisterIsData := fun m r len h => by rw [storeL, check_refused h]; rfl
  have hloadB : ∀ (m : Mode) (len : Nat), m.modifies = some p.num →
      loadB m p len s = .refused .addressRegisterIsData := fun m len h => by rw [loadB, check_refused h]; rfl
  have hstoreB : ∀ (m : Mode) (len : Nat), m.modifies = some p.num →
      storeB p m len s = .refused .addressRegisterIsData := fun m len h => by rw [storeB, check_refused h]; rfl
  have hloadW : ∀ (m : Mode) (len : Nat), m.modifies = some x.num →
      loadW m x len s = .refused .addressRegisterIsData := fun m len h => by rw [loadW, check_refused h]; rfl
  have hstoreW : ∀ (m : Mode) (len : Nat), m.modifies = some x.num →
      storeW x m len s = .refused .addressRegisterIsData := fun m len h => by rw [storeW, check_refused h]; rfl
  refine ⟨fun h => ⟨hloadB (.postInc n) 2 (congrArg some h.symm), hstoreB (.preDec n) 2 (congrArg some h.symm)⟩,
    fun h => ⟨hloadW (.postInc n) 2 (congrArg some h.symm), hstoreW (.preDec n) 2 (congrArg some h.symm)⟩,
    hload (.postInc n) n 4 rfl, hstore (.preDec n) n 4 rfl,
    fun h => ⟨hloadW (.postInc sp) 2 (congrArg some h.symm), hstoreW (.preDec sp) 2 (congrArg some h.symm)⟩,
    hload (.postInc sp) 7 4 rfl, hstore (.preDec sp) 7 4 rfl, rfl, rfl⟩

/-! ### Reset values, the register views and the step -/

/-- Settles O6: the reset state as it is written down. -/
theorem resetValues : Obligations.ResetValues :=
  ⟨rfl, rfl, rfl, rfl, rfl, rfl, rfl, rfl, rfl, rfl, _, _, rfl, rfl⟩

theorem long_of_views (x : Long) : (x.extractLsb' 16 16 ++ x.extractLsb' 8 8 ++ x.extractLsb' 0 8 : Long) = x := by
  rw [BitVec.extractLsb'_append_extractLsb'_eq_extractLsb' (by rfl),
    BitVec.extractLsb'_append_extractLsb'_eq_extractLsb' (by rfl)]
  exact BitVec.extractLsb'_eq_self

theorem word_of_views (x : Long) : (x.extractLsb' 8 8 ++ x.extractLsb' 0 8 : Word) = x.extractLsb' 0 16 :=
  BitVec.extractLsb'_append_extractLsb'_eq_extractLsb' rfl

theorem getLsbD_putByte_low (x : Long) (v : Byte) (n : RegNum) {i : Nat} (hi : i < 32) :
    (putByte x v (.l n)).getLsbD i = if i < 8 then v.getLsbD i else x.getLsbD i := by
  rw [putByte, getLsbD_lowByte]
  split
  · rfl
  · have h24 : i - 8 < 24 := by omega
    have h8 : 8 + (i - 8) = i := by omega
    rw [BitVec.getLsbD_extractLsb', h8, decide_eq_true h24, Bool.true_and]

theorem getLsbD_putByte_high (x : Long) (v : Byte) (n : RegNum) {i : Nat} (hi : i < 32) :
    (putByte x v (.h n)).getLsbD i = if 8 ≤ i ∧ i < 16 then v.getLsbD (i - 8) else x.getLsbD i := by
  rw [putByte, getLsbD_highByte]
  by_cases h8 : i < 8
  · rw [if_pos h8, if_neg (by omega), BitVec.getLsbD_extractLsb', Nat.zero_add, decide_eq_true h8, Bool.true_and]
  · by_cases h16 : i < 16
    · rw [if_neg h8, if_pos h16, if_pos ⟨by omega, h16⟩]
    · have h : i - 16 < 16 := by omega
      have hsum : 16 + (i - 16) = i := by omega
      rw [if_neg h8, if_neg h16, if_neg (by omega), BitVec.getLsbD_extractLsb', hsum, decide_eq_true h, Bool.true_and]

theorem getLsbD_putWord_low (x : Long) (v : Word) (n : RegNum) {i : Nat} (hi : i < 32) :
    (putWord x v (.r n)).getLsbD i = if i < 16 then v.getLsbD i else x.getLsbD i := by
  rw [putWord, getLsbD_words]
  split
  · rfl
  · have h : i - 16 < 16 := by omega
    have hsum : 16 + (i - 16) = i := by omega
    rw [BitVec.getLsbD_extractLsb', hsum, decide_eq_true h, Bool.true_and]

theorem getLsbD_putWord_high (x : Long) (v : Word) (n : RegNum) {i : Nat} :
    (putWord x v (.e n)).getLsbD i = if 16 ≤ i then v.getLsbD (i - 16) else x.getLsbD i := by
  rw [putWord, getLsbD_words]
  by_cases h : i < 16
  · rw [if_pos h, if_neg (by omega), BitVec.getLsbD_extractLsb', Nat.zero_add, decide_eq_true h, Bool.true_and]
  · rw [if_neg h, if_pos (by omega)]

/-- Settles O9: each write of a view puts its bits into one register. -/
theorem registerViews : Obligations.RegisterViews := by
  intro s n m b w i hi
  refine ⟨(long_of_views _).symm, (word_of_views _).symm, ?_⟩
  by_cases h : m = n
  · subst h
    simp only [State.setReg8, State.setReg16, reg32_setReg32_same, Reg8.num, Reg16.num, true_and]
    exact ⟨getLsbD_putByte_low _ _ _ hi, getLsbD_putByte_high _ _ _ hi, getLsbD_putWord_low _ _ _ hi,
      getLsbD_putWord_high _ _ _⟩
  · simp only [h, false_and, if_false]
    exact ⟨by rw [reg32_setReg8_other _ _ _ h], by rw [reg32_setReg8_other _ _ _ h],
      by rw [reg32_setReg16_other _ _ _ h], by rw [reg32_setReg16_other _ _ _ h]⟩

/-- A step of a running program in which nothing else comes first is the instruction at PC. -/
theorem step_of_program {s : State} (hp : s.pstate = .program) (hr : s.resLow = false) (hs : s.stbyLow = false)
    (ha : s.samplePins.accepted = none) : step s = settle s.samplePins.runInstruction := by
  simp only [step, State.sampledStep, samplePins_pstate, hp, samplePins_resLow, hr, samplePins_stbyLow, hs,
    State.programStep, ha, Bool.false_eq_true, if_false]

/-- Settles O5: the step is the fetch of the words at PC and what they decode to. -/
theorem stepRunsDecoded : Obligations.StepRunsDecoded := by
  intro s hp hr hs ha words
  have hstep := step_of_program hp hr hs ha
  refine ⟨fun i rest hd => ?_, fun e he hd => ?_, fun why hd hw => ?_, fun u hu => ?_, fun u k hu => ?_⟩
  · have hf : s.samplePins.fetch = .ok (i, State.afterFetch ((words.1.length - rest.length) / 2) (evenAddr s.pc)
        s.samplePins) := by
      simp only [State.fetch, samplePins_pc]
      rw [show decode (State.fetchWords (maxLength / 2) (evenAddr s.pc) s.samplePins).1 = .ok (i, rest) from hd]
    rw [hstep, State.runInstruction, hf]
  · have hf : s.samplePins.fetch = .error (.refusal .undefinedInstruction) := by
      simp only [State.fetch, samplePins_pc]
      rw [show decode (State.fetchWords (maxLength / 2) (evenAddr s.pc) s.samplePins).1 = .error e from hd]
      cases e with
      | truncated => exact absurd rfl he
      | unowned | fixedBits => rfl
    rw [hstep, State.runInstruction, hf]
    rfl
  · have hf : s.samplePins.fetch = .error why := by
      simp only [State.fetch, samplePins_pc]
      rw [show decode (State.fetchWords (maxLength / 2) (evenAddr s.pc) s.samplePins).1 = .error .truncated from hd]
      rw [show (State.fetchWords (maxLength / 2) (evenAddr s.pc) s.samplePins).2 = some why from hw]
      rfl
    rw [hstep, State.runInstruction, hf]
  · rw [settle, resFalls_of hu]
  · simp [settle, State.resFalls, hu]

end Sys2Proof.Machine

/-! ### The address map and the control registers (R42 to R55, R92 to R94) -/

namespace Sys2Proof.Machine

/-! ### The regions of the map -/

theorem topBase_le (m : McuMode) : 0x0F0000 ≤ topBase m := by
  unfold topBase
  split <;> omega

/-- The last 64 kbytes end where the address space does. -/
theorem phys_lt_top (m : McuMode) (a : Addr) : phys m a < topBase m + 0x10000 := by
  have := a.isLt
  unfold phys topBase
  split <;> omega

theorem romSize_le (p : Product) : Product.romSize p ≤ romSpace := by cases p <;> decide

theorem ramStart_bounds (p : Product) : 0xDF10 ≤ Product.ramStart p ∧ Product.ramStart p ≤ 0xEF10 := by
  cases p <;> decide

theorem locate_of_phys_eq {s : State} {a b : Addr} (h : phys s.mcuMode a = phys s.mcuMode b) :
    s.locate a = s.locate b := by simp only [State.locate, h]

theorem locate_rom {s : State} {a : Addr} (hr : McuMode.hasRom s.mcuMode = true)
    (h : phys s.mcuMode a < Product.romSize s.product) : s.locate a = .rom (phys s.mcuMode a) := by
  unfold State.locate
  simp only [hr, h, decide_true, Bool.and_self, if_true]

theorem locate_romHole {s : State} {a : Addr} (hr : McuMode.hasRom s.mcuMode = true)
    (h : Product.romSize s.product ≤ phys s.mcuMode a) (h' : phys s.mcuMode a < romSpace) :
    s.locate a = .stop (.fault .unmapped) := by
  have hn : ¬ phys s.mcuMode a < Product.romSize s.product := by omega
  unfold State.locate
  simp only [hr, hn, h', decide_true, decide_false, Bool.and_false, Bool.false_eq_true, if_false, Bool.and_self, if_true]

/-- Above the space of ROM, or in a mode without ROM, the first two cases of the map do not apply. -/
theorem locate_aboveRom {s : State} {a : Addr} (h : McuMode.hasRom s.mcuMode = true → romSpace ≤ phys s.mcuMode a) :
    s.locate a =
      if topBase s.mcuMode + 0xFF1C ≤ phys s.mcuMode a then
        s.internalPlace (phys s.mcuMode a) (phys s.mcuMode a - topBase s.mcuMode)
      else if topBase s.mcuMode + Product.ramStart s.product ≤ phys s.mcuMode a ∧
          phys s.mcuMode a < topBase s.mcuMode + 0xFF10 then
        if s.ramEnabled then .ram (phys s.mcuMode a)
        else if s.mcuMode = .mode7 then .disabledRam
        else s.externalPlace (phys s.mcuMode a) (phys s.mcuMode a + behindRam)
      else if s.product = .h83020 ∧ topBase s.mcuMode + 0xDF10 ≤ phys s.mcuMode a ∧
          phys s.mcuMode a < topBase s.mcuMode + 0xEF10 then .stop (.fault .reservedArea)
      else if s.mcuMode = .mode7 then .stop (.fault .unmapped)
      else s.externalPlace (phys s.mcuMode a) (phys s.mcuMode a) := by
  have hs := romSize_le s.product
  have h1 : ¬ (McuMode.hasRom s.mcuMode && decide (phys s.mcuMode a < Product.romSize s.product)) = true := by
    simp only [Bool.and_eq_true, decide_eq_true_eq, not_and]
    exact fun hr => by have := h hr; omega
  have h2 : ¬ (McuMode.hasRom s.mcuMode && decide (phys s.mcuMode a < romSpace)) = true := by
    simp only [Bool.and_eq_true, decide_eq_true_eq, not_and]
    exact fun hr => by have := h hr; omega
  simp only [State.locate, if_neg h1, if_neg h2]

theorem locate_onChipRam {s : State} {a : Addr} (h : topBase s.mcuMode + Product.ramStart s.product ≤ phys s.mcuMode a)
    (h' : phys s.mcuMode a < topBase s.mcuMode + 0xFF10) :
    s.locate a = if s.ramEnabled then .ram (phys s.mcuMode a) else if s.mcuMode = .mode7 then .disabledRam
      else s.externalPlace (phys s.mcuMode a) (phys s.mcuMode a + behindRam) := by
  have ht := topBase_le s.mcuMode
  rw [locate_aboveRom fun _ => by unfold romSpace; omega, if_neg (by omega), if_pos ⟨h, h'⟩]

/-! ### Reads and writes by place -/

theorem peekByte_of_stop {s : State} {a : Addr} {why : Stop} (h : s.locate a = .stop why) :
    s.peekByte a = .error why := by simp only [State.peekByte, h]

theorem writeByte_of_stop {s : State} {a : Addr} {why : Stop} (v : Byte) (h : s.locate a = .stop why) :
    s.writeByte a v = .error why := by simp only [State.writeByte, h]

theorem peekByte_of_reg {s : State} {a : Addr} {r : IoReg} (h : s.locate a = .reg r) :
    s.peekByte a = .ok (s.readReg r) := by simp only [State.peekByte, h]

theorem writeByte_of_reg {s : State} {a : Addr} {r : IoReg} (v : Byte) (h : s.locate a = .reg r) :
    s.writeByte a v = .ok (s.writeReg r v) := by simp only [State.writeByte, h]

/-- Settles O12: the map's case for on-chip RAM, with RAME 0. -/
theorem disabledRam : Obligations.DisabledRam := by
  intro s a v hr h h'
  have hl := locate_onChipRam h h'
  rw [State.ramEnabled, hr, if_neg Bool.false_ne_true] at hl
  refine ⟨fun hm => ?_, fun hm => by rw [hl, if_neg hm]⟩
  rw [if_pos hm] at hl
  exact ⟨by simp only [State.peekByte, hl], by simp only [State.writeByte, hl]⟩

/-! ### The whole map -/

theorem ofLow_eq_none_iff (low : Nat) :
    IoReg.ofLow low = none ↔ low ∉ [0xFFF1, 0xFFF2, 0xFFF4, 0xFFF5, 0xFFF6, 0xFFF8, 0xFFF9] := by
  unfold IoReg.ofLow
  split <;> simp_all

theorem mem_shifted_iff {top p : Nat} (h : top ≤ p) (l : List Nat) : p ∈ l.map (top + ·) ↔ p - top ∈ l := by
  rw [List.mem_map]
  constructor
  · rintro ⟨k, hk, rfl⟩
    rwa [Nat.add_sub_cancel_left]
  · exact fun hk => ⟨p - top, hk, by omega⟩

theorem hasRom_iff (m : McuMode) : McuMode.hasRom m = true ↔ m = .mode5 ∨ m = .mode6 ∨ m = .mode7 := by
  cases m <;> simp [McuMode.hasRom]

theorem topBase_eq (m : McuMode) : topBase m = if m = .mode3 ∨ m = .mode6 then 0xFF0000 else 0x0F0000 := by
  cases m <;> simp [topBase, McuMode.oneMbyte]

theorem phys_add_mbyte {m : McuMode} (h3 : m ≠ .mode3) (h6 : m ≠ .mode6) (a : Addr) :
    phys m a = a.toNat % 0x100000 ∧ phys m (a + 0x100000#24) = phys m a := by
  have hone : McuMode.oneMbyte m = true := by cases m <;> simp_all [McuMode.oneMbyte]
  have hsum : (a + 0x100000#24).toNat = (a.toNat + 0x100000) % 0x1000000 := by rw [BitVec.toNat_add]; rfl
  rw [phys, phys, if_pos hone, if_pos hone, hsum]
  omega

/-- Settles O13: the cases of the map, one by one. -/
theorem addressMap : Obligations.AddressMap := by
  intro s a v p top rom romEnd ramStart seven stops
  have htop : top = topBase s.mcuMode := (topBase_eq s.mcuMode).symm
  have hromEnd : romEnd = Product.romSize s.product := by
    change (match s.product with | .h83022 | .h83022Fztat => _ | .h83021 => _ | .h83020 => _) = _
    cases s.product <;> rfl
  have hram : ramStart = topBase s.mcuMode + Product.ramStart s.product := by
    change top + _ = _
    rw [htop]
    cases s.product <;> simp [Product.ramStart]
  have hrom : rom ↔ McuMode.hasRom s.mcuMode = true := (hasRom_iff s.mcuMode).symm
  have hseven : ∀ k, topBase s.mcuMode ≤ k → (k ∈ seven ↔ ¬ IoReg.ofLow (k - topBase s.mcuMode) = none) := fun k hk => by
    rw [ofLow_eq_none_iff, not_not, ← mem_shifted_iff hk, ← htop]
  have hlt := phys_lt_top s.mcuMode a
  have hbase := topBase_le s.mcuMode
  have hbounds := ramStart_bounds s.product
  have hsize := romSize_le s.product
  have hspace : romSpace = 0x40000 := rfl
  have hp : p = phys s.mcuMode a := rfl
  have hstops : ∀ why, s.locate a = .stop why → stops why := fun why h => ⟨peekByte_of_stop h, writeByte_of_stop v h⟩
  rw [htop, hromEnd, hram]
  simp only [hrom]
  refine ⟨fun h3 h6 => ?_, fun h => ?_, fun hr h => ?_, fun hr h h' => ?_, fun he h h' => ?_, fun h20 h h' => ?_,
    fun hr h => ?_, fun key => ?_, fun h hn => ?_, fun ports k h => ?_⟩
  · obtain ⟨h1, h2⟩ := phys_add_mbyte h3 h6 a
    exact ⟨h1, locate_of_phys_eq h2⟩
  · change phys s.mcuMode a = _
    rcases h with h | h <;> simp [phys, h, McuMode.oneMbyte]
  · have hl := locate_rom hr h
    exact ⟨hl, by simp only [State.peekByte, hl, hp], by simp only [State.writeByte, hl]⟩
  · exact hstops _ (locate_romHole hr h (by omega))
  · have hl := locate_onChipRam h h'
    rw [State.ramEnabled, he, if_pos rfl] at hl
    exact ⟨hl, peekByte_of_ram hl, writeByte_of_ram v hl⟩
  · refine hstops _ ?_
    have hend : Product.ramStart s.product = 0xEF10 := by rw [h20]; rfl
    rw [locate_aboveRom fun _ => by omega, if_neg (by omega), if_neg (by omega), if_pos ⟨h20, by omega, by omega⟩]
  · have hl : s.locate a = if s.mcuMode = .mode7 then .stop (.fault .unmapped) else s.externalPlace p p := by
      rw [locate_aboveRom hr, if_neg (by omega), if_neg (by omega), if_neg (by omega)]
    refine ⟨fun hm => hstops _ (by rw [hl, if_pos hm]), fun hm => ?_⟩
    rw [if_neg hm] at hl
    exact ⟨hl, fun he => by simp [hl, State.externalPlace, State.platformKind, State.platformRegion, he]⟩
  · rfl
  · have hnone : IoReg.ofLow (p - topBase s.mcuMode) = none := not_not.mp fun hc => hn ((hseven p (by omega)).mpr hc)
    have hl : s.locate a = s.internalPlace p (p - topBase s.mcuMode) := by
      rw [locate_aboveRom fun _ => by omega, if_pos h]
    simp only [State.internalPlace, hnone, State.platformKind] at hl
    refine ⟨fun hreg => hstops _ (by rw [hl, hreg]; rfl), fun r hreg => ⟨by rw [hl, hreg, Option.map_some]; cases r.kind <;> rfl, fun ports => ?_⟩⟩
    have hlow : p - topBase s.mcuMode < 0x10000 := by omega
    simp [State.moduleCell, hreg, hnone, hlow, h]
  · cases hc : s.moduleCell ports k with
    | false => rfl
    | true =>
      obtain ⟨hlo, hhi⟩ := moduleCell_window hc
      rcases h with h | h | h
      · omega
      · omega
      · have := (hseven k (by omega)).mp h
        simp [State.moduleCell, this] at hc

/-! ### The control registers (R42 to R55) -/

/-- The bits of a byte with bit 1 set. -/
theorem getLsbD_or_two (v : Byte) {i : Nat} (hi : i < 8) : (v ||| 0x02#8).getLsbD i = (decide (i = 1) || v.getLsbD i) := by
  have : ∀ j : Fin 8, (0x02#8).getLsbD j.val = decide (j.val = 1) := by decide
  rw [BitVec.getLsbD_or, this ⟨i, hi⟩, Bool.or_comm]

/-- Settles O14: each address leads to its register in every mode, and a write is a write of one field. -/
theorem controlRegisters : Obligations.ControlRegisters := by
  intro s v
  have hmdcr : s.locate 0xFFFFF1#24 = .reg .mdcr := locate_ioReg s (low := 0xFFF1) rfl (by decide) (by decide)
  have hsyscr : ∀ u : State, u.locate 0xFFFFF2#24 = .reg .syscr := fun u =>
    locate_ioReg u (low := 0xFFF2) rfl (by decide) (by decide)
  have hiscr : ∀ u : State, u.locate 0xFFFFF4#24 = .reg .iscr := fun u =>
    locate_ioReg u (low := 0xFFF4) rfl (by decide) (by decide)
  have hier : ∀ u : State, u.locate 0xFFFFF5#24 = .reg .ier := fun u =>
    locate_ioReg u (low := 0xFFF5) rfl (by decide) (by decide)
  have hipra : ∀ u : State, u.locate 0xFFFFF8#24 = .reg .ipra := fun u =>
    locate_ioReg u (low := 0xFFF8) rfl (by decide) (by decide)
  have hiprb : ∀ u : State, u.locate 0xFFFFF9#24 = .reg .iprb := fun u =>
    locate_ioReg u (low := 0xFFF9) rfl (by decide) (by decide)
  refine ⟨peekByte_of_reg hmdcr, writeByte_of_reg v hmdcr,
    ⟨v ||| 0x02#8, writeByte_of_reg v (hsyscr s), fun i hi => getLsbD_or_two v hi, peekByte_of_reg (hsyscr _)⟩, ?_⟩
  rintro a t (⟨rfl, rfl⟩ | ⟨rfl, rfl⟩ | ⟨rfl, rfl⟩ | ⟨rfl, rfl⟩)
  · exact ⟨writeByte_of_reg v (hiscr s), peekByte_of_reg (hiscr _)⟩
  · exact ⟨writeByte_of_reg v (hier s), peekByte_of_reg (hier _)⟩
  · exact ⟨writeByte_of_reg v (hipra s), peekByte_of_reg (hipra _)⟩
  · exact ⟨writeByte_of_reg v (hiprb s), peekByte_of_reg (hiprb _)⟩

theorem locate_isr (s : State) : s.locate 0xFFFFF6#24 = .reg .isr :=
  locate_ioReg s (low := 0xFFF6) rfl (by decide) (by decide)

theorem clearedIsr_getLsbD (isr isrRead v : Byte) {i : Nat} (hi : i < 8) : (clearedIsr isr isrRead v).getLsbD i =
    if isrRead.getLsbD i = true ∧ v.getLsbD i = false then false else isr.getLsbD i := by
  rw [clearedIsr, BitVec.getLsbD_and, BitVec.getLsbD_or, BitVec.getLsbD_not, decide_eq_true hi]
  generalize isr.getLsbD i = x, isrRead.getLsbD i = y, v.getLsbD i = z
  revert x y z
  decide

theorem clearedIsr_zero (isr v : Byte) : clearedIsr isr 0#8 v = isr := by
  apply BitVec.eq_of_getLsbD_eq
  intro i hi
  simp [clearedIsr_getLsbD _ _ _ hi]

theorem clearedIsr_self (isr v : Byte) : clearedIsr isr isr v = isr &&& v := by
  apply BitVec.eq_of_getLsbD_eq
  intro i hi
  rw [clearedIsr_getLsbD _ _ _ hi, BitVec.getLsbD_and]
  cases isr.getLsbD i <;> cases v.getLsbD i <;> rfl

/-- Settles O15: a write keeps a flag that it writes 1 or that has not been read as 1. -/
theorem isrClearing : Obligations.IsrClearing := by
  intro s w
  refine ⟨⟨_, _, writeByte_of_reg w (locate_isr s), fun i hi => clearedIsr_getLsbD _ _ _ hi⟩, fun h => ⟨?_, ?_⟩⟩
  · have hsame : s.writeReg .isr w = s := by
      rw [State.writeReg, h, clearedIsr_zero, BitVec.zero_and, ← h]
    rw [writeByte_of_reg w (locate_isr s), hsame]
  · have hnote : s.noteRead 0xFFFFF6#24 = { s with isrRead := s.isr } := by
      simp only [State.noteRead, locate_isr, h, BitVec.zero_or]
    refine ⟨_, ?_, rfl, ?_⟩
    · rw [readByte_of_peek (peekByte_of_reg (locate_isr s)), hnote]
      rfl
    · rw [writeByte_of_reg w (locate_isr _)]
      simp only [State.writeReg, clearedIsr_self]

end Sys2Proof.Machine

/-! ### Interrupts: pins, requests, choice and mask (R378 to R383) -/

namespace Sys2Proof.Machine

theorem IrqLine.mem_all (l : IrqLine) : l ∈ IrqLine.all := by cases l <;> decide

theorem mem_moduleSources (m : ModuleInterrupt) : m ∈ moduleSources := by cases m <;> decide

theorem IrqLine.bit_lt (l : IrqLine) : l.bit < 8 := by cases l <;> decide

theorem sampledIsr_getLsbD_bit (s : State) (l : IrqLine) : s.sampledIsr.getLsbD l.bit = s.sampledFlag l := by
  rw [sampledIsr_getLsbD]
  cases l <;> rfl

theorem sampledIsr_getLsbD_other (s : State) {i : Nat} (h : ∀ k : IrqLine, i ≠ k.bit) :
    s.sampledIsr.getLsbD i = s.isr.getLsbD i := by
  have h5 : i ≠ 5 := h .irq5
  have h4 : i ≠ 4 := h .irq4
  have h1 : i ≠ 1 := h .irq1
  have h0 : i ≠ 0 := h .irq0
  rw [sampledIsr_getLsbD, if_neg h5, if_neg h4, if_neg h1, if_neg h0]

theorem irq_mem_maskableRequests (s : State) (l : IrqLine) :
    Source.irq l ∈ s.maskableRequests ↔ s.isr.getLsbD l.bit = true ∧ s.ier.getLsbD l.bit = true := by
  simp [State.maskableRequests, State.irqRequested, IrqLine.mem_all]

theorem internal_mem_maskableRequests (s : State) (m : ModuleInterrupt) :
    Source.internal m ∈ s.maskableRequests ↔ m ∈ s.moduleRequests ∧ s.pstate ≠ .softwareStandby := by
  simp [State.maskableRequests, State.moduleRequested, mem_moduleSources]

theorem nmi_not_mem_maskableRequests (s : State) : Source.nmi ∉ s.maskableRequests := by
  simp [State.maskableRequests]

theorem wakes_iff (s : State) : s.wakes = true ↔ s.nmiRequest = true ∨ ∃ k, Source.irq k ∈ s.maskableRequests := by
  simp [State.wakes, irq_mem_maskableRequests, State.irqRequested, IrqLine.mem_all]

theorem withBit_false_getLsbD_bit (v : Byte) (l : IrqLine) (i : Nat) :
    (withBit v l.bit false).getLsbD i = (v.getLsbD i && !decide (i = l.bit)) := by
  rw [withBit_getLsbD v ⟨l.bit, l.bit_lt⟩]
  by_cases h : i = l.bit <;> simp [h]

/-- Taking a request of a line clears its flag and the record of it where the line is edge-sensed (R383). -/
theorem acknowledge_irq (s : State) (l : IrqLine) (i : Nat) :
    let u := s.acknowledge (.irq l)
    u = { s with isr := u.isr, isrRead := u.isrRead } ∧
      u.isr.getLsbD i = (s.isr.getLsbD i && !(s.iscr.getLsbD l.bit && decide (i = l.bit))) ∧
      u.isrRead.getLsbD i = (s.isrRead.getLsbD i && !(s.iscr.getLsbD l.bit && decide (i = l.bit))) := by
  cases hb : s.iscr.getLsbD l.bit with
  | false =>
    have hu : s.acknowledge (.irq l) = s := by simp only [State.acknowledge, State.edgeSensed, hb, Bool.false_eq_true, if_false]
    rw [hu]
    simp
  | true =>
    have hu : s.acknowledge (.irq l) =
        { s with isr := withBit s.isr l.bit false, isrRead := withBit s.isrRead l.bit false } := by
      simp only [State.acknowledge, State.edgeSensed, hb, if_true]
    rw [hu]
    exact ⟨rfl, by simpa using withBit_false_getLsbD_bit _ l i, by simpa using withBit_false_getLsbD_bit _ l i⟩

/-- Settles O55: the flags as sampled, the requests by their lists, and what taking one clears. -/
theorem pinSampling : Obligations.PinSampling := by
  intro s l m i t u
  obtain ⟨hu, hisr, hread⟩ := acknowledge_irq s l i
  refine ⟨rfl, fun h => ?_, fun h => ?_, sampledIsr_getLsbD_other s, rfl, nmi_not_mem_maskableRequests s,
    irq_mem_maskableRequests s l, internal_mem_maskableRequests s m, wakes_iff s, rfl, hu, hisr, hread, rfl⟩
  · exact (sampledIsr_getLsbD_bit s l).trans (by rw [State.sampledFlag, State.edgeSensed, h, if_pos rfl])
  · exact (sampledIsr_getLsbD_bit s l).trans (by rw [State.sampledFlag, State.edgeSensed, h, if_neg Bool.false_ne_true])

/-! ### The choice among requests (R382) -/

/-- All sources but NMI, in ascending vector order. -/
def maskableSources : List Source := IrqLine.all.map .irq ++ moduleSources.map .internal

theorem maskableSources_ascending : maskableSources.Pairwise fun r q => r.vector ≤ q.vector := by decide

/-- The requests stand in ascending vector order. -/
theorem maskableRequests_ascending (s : State) : s.maskableRequests.Pairwise fun r q => r.vector ≤ q.vector :=
  maskableSources_ascending.sublist ((List.filter_sublist.map _).append (List.filter_sublist.map _))

/-- The first element that satisfies a test, in an ascending list, has the least number of those that do. -/
theorem find?_least {l : List Source} (hl : l.Pairwise fun r q => r.vector ≤ q.vector) {p : Source → Bool} {r q : Source}
    (hr : l.find? p = some r) (hq : q ∈ l) (hp : p q = true) : r.vector ≤ q.vector := by
  obtain ⟨-, as, bs, rfl, has⟩ := List.find?_eq_some_iff_append.mp hr
  rw [List.pairwise_append, List.pairwise_cons] at hl
  obtain ⟨-, ⟨hbs, -⟩, -⟩ := hl
  rcases List.mem_append.mp hq with h | h
  · exact absurd hp (by simpa using has q h)
  · rcases List.mem_cons.mp h with rfl | h
    · exact le_rfl
    · exact hbs q h

theorem presented_of_nmi {s : State} (h : s.nmiRequest = true) : s.presented = some .nmi := by
  rw [State.presented, h, if_pos rfl]

/-- Without NMI the first request of level 1 is presented, else the first. -/
theorem presented_of_no_nmi {s : State} (h : s.nmiRequest = false) :
    s.presented = (s.maskableRequests.find? s.levelOne).or s.maskableRequests.head? := by
  rw [State.presented, h, if_neg Bool.false_ne_true]
  cases s.maskableRequests.find? s.levelOne <;> rfl

theorem presented_eq_none_iff {s : State} (h : s.nmiRequest = false) :
    s.presented = none ↔ s.maskableRequests = [] := by
  rw [presented_of_no_nmi h, Option.or_eq_none_iff, List.head?_eq_none_iff]
  exact ⟨fun h => h.2, fun h => ⟨by rw [h]; rfl, h⟩⟩

/-- Nothing of a higher level, and nothing of its level with a lower number, is passed over. -/
theorem presented_best {s : State} {r q : Source} (h : s.nmiRequest = false) (hr : s.presented = some r)
    (hq : q ∈ s.maskableRequests) :
    (s.levelOne q = true → s.levelOne r = true) ∧ (s.levelOne q = s.levelOne r → r.vector ≤ q.vector) := by
  rw [presented_of_no_nmi h] at hr
  have hasc := maskableRequests_ascending s
  cases hf : s.maskableRequests.find? s.levelOne with
  | some r' =>
    rw [hf] at hr
    obtain rfl : r' = r := Option.some.inj hr
    have h1 := List.find?_some hf
    exact ⟨fun _ => h1, fun he => find?_least hasc hf hq (he.trans h1)⟩
  | none =>
    rw [hf, Option.none_or] at hr
    have hnone : ¬ s.levelOne q = true := List.find?_eq_none.mp hf q hq
    refine ⟨fun h1 => absurd h1 hnone, fun _ => ?_⟩
    obtain ⟨rest, hl⟩ := List.head?_eq_some_iff.mp hr
    rw [hl] at hq hasc
    rcases List.mem_cons.mp hq with rfl | h
    · exact le_rfl
    · exact (List.pairwise_cons.mp hasc).1 q h

/-! ### The mask (R380, R381) -/

theorem accepted_of_inhibit {s : State} (h : s.irqInhibit = true) : s.accepted = none := by
  rw [State.accepted, h, if_pos rfl]

theorem accepted_of_nmi {s : State} (h : s.irqInhibit = false) (hn : s.nmiRequest = true) : s.accepted = some .nmi := by
  rw [State.accepted, h, presented_of_nmi hn]
  rfl

theorem passesMask_of_ne_nmi {s : State} {r : Source} (h : r ≠ .nmi) :
    s.passesMask r = true ↔
      s.flag .I = false ∨ (s.syscr.getLsbD 3 = false ∧ s.flag .UI = false ∧ s.levelOne r = true) := by
  cases r with
  | nmi => exact absurd rfl h
  | irq l | internal m => simp [State.passesMask, State.userBitEnabled, and_assoc]

theorem accepted_of_no_nmi {s : State} (h : s.irqInhibit = false) (hn : s.nmiRequest = false) (r : Source) :
    s.accepted = some r ↔ (s.presented = some r ∧
      (s.flag .I = false ∨ (s.syscr.getLsbD 3 = false ∧ s.flag .UI = false ∧ s.levelOne r = true))) := by
  rw [State.accepted, h, if_neg Bool.false_ne_true, Option.filter_eq_some_iff]
  refine and_congr_right fun hp => passesMask_of_ne_nmi ?_
  rintro rfl
  rcases presented_some hp with ⟨h', -⟩ | ⟨-, h'⟩
  · rw [hn] at h'
    cases h'
  · exact nmi_not_mem_maskableRequests s h'

/-! ### The tables of vectors and priorities (R51, R52, R364, R366, R382) -/

theorem vector_iff_mem (r : Source) (n : Nat) : r.vector = n ↔ (r, n) ∈ sourceVectors := by
  have hall : ∀ e ∈ sourceVectors, e.1.vector = e.2 := by decide
  refine ⟨?_, fun h => hall _ h⟩
  rintro rfl
  rcases r with - | l | m
  · decide
  · cases l <;> decide
  · cases m <;> decide

theorem levelOne_ipra (s : State) : ∀ g ∈ ipraGroups, ∀ r ∈ g.2, s.levelOne r = s.ipra.getLsbD g.1 := by
  simp [ipraGroups, State.levelOne, IrqLine.ipraBit, State.modulePriority]

theorem levelOne_iprb (s : State) : ∀ g ∈ iprbGroups s.iprbLayout, ∀ r ∈ g.2, s.levelOne r = s.iprb.getLsbD g.1 := by
  simp [iprbGroups, State.levelOne, State.modulePriority]

theorem has_group (l : IprbLayout) {r : Source} (h : r ≠ .nmi) : ∃ g ∈ ipraGroups ++ iprbGroups l, r ∈ g.2 := by
  rcases r with - | q | m
  · exact absurd rfl h
  · cases q <;> simp [ipraGroups, iprbGroups]
  · cases m <;> simp [ipraGroups, iprbGroups]

/-- Settles O56: the mask, the choice, and the tables. -/
theorem interruptAcceptance : Obligations.InterruptAcceptance :=
  ⟨fun _ => ⟨accepted_of_inhibit, accepted_of_nmi, accepted_of_no_nmi⟩,
    fun _ => ⟨presented_of_nmi, fun hn => ⟨presented_eq_none_iff hn, fun _ hr =>
      ⟨((presented_some hr).resolve_left fun h => by rw [hn] at h; cases h.1).2, fun _ hq => presented_best hn hr hq⟩⟩⟩,
    vector_iff_mem,
    fun s _ _ _ hr => ⟨fun hg => levelOne_ipra s _ hg _ hr, fun hg => levelOne_iprb s _ hg _ hr⟩,
    fun l _ hr => has_group l hr⟩

end Sys2Proof.Machine

/-! ### Reset, standby and sleep (R370, R400 to R407) -/

namespace Sys2Proof.Machine

/-! ### The end of a step -/

/-- The end of a step changes nothing but RES and the input that says when it falls. -/
theorem resFalls_eq (s : State) : ∃ b d, s.resFalls = { s with resLow := b, resDuring := d } := by
  unfold State.resFalls
  split
  · exact ⟨_, _, rfl⟩
  · exact ⟨s.resLow, s.resDuring, rfl⟩

theorem sameCellsButModules_of {ports : Bool} {s u t : State} (hm : u.mcuMode = s.mcuMode) (hf : u.platform = s.platform)
    (hu : ∀ k, u.mem.read k = s.mem.read k) (h : SameCellsButModules ports u t) : SameCellsButModules ports s t :=
  fun k hk => by rw [h k (by rwa [moduleCell_congr hm hf]), hu k]

theorem enterReset_cells (s : State) : SameCellsButModules true s s.enterReset := fun _ hk => enterReset_read s hk

theorem enterHardwareStandby_cells (s : State) : SameCellsButModules true s s.enterHardwareStandby :=
  fun _ hk => resetModules_read s hk

/-! ### The states between which RES and STBY move (R371, R400, R405, R406) -/

/-- A running, sleeping or standing-by program. -/
def ProcessingState.inProgram (p : ProcessingState) : Prop := p = .program ∨ p = .sleep ∨ p = .softwareStandby

theorem step_of_resLow {s : State} (hp : s.pstate.inProgram) (hr : s.resLow = true) :
    step s = .next s.samplePins.enterReset.resFalls := by
  rcases hp with hp | hp | hp <;>
    simp only [step, State.sampledStep, samplePins_pstate, hp, samplePins_resLow, hr, if_true, settle]

theorem step_of_stbyLow {s : State} (hp : s.pstate.inProgram) (hr : s.resLow = false) (hs : s.stbyLow = true) :
    step s = .next s.samplePins.enterHardwareStandby.resFalls := by
  rcases hp with hp | hp | hp <;>
    simp only [step, State.sampledStep, samplePins_pstate, hp, samplePins_resLow, hr, samplePins_stbyLow, hs, if_true,
      Bool.false_eq_true, if_false, settle]

theorem step_of_reset {s : State} (hp : s.pstate = .reset) : step s = settle (finish s.samplePins.resetStep) := by
  simp only [step, State.sampledStep, samplePins_pstate, hp]

theorem resetStep_of_stbyLow {s : State} (hs : s.stbyLow = true) : s.resetStep = .ok s.enterHardwareStandby := by
  rw [State.resetStep, hs, if_pos rfl]

theorem resetStep_of_resLow {s : State} (hs : s.stbyLow = false) (hr : s.resLow = true) : s.resetStep = .ok s := by
  rw [State.resetStep, hs, hr, if_neg Bool.false_ne_true, if_pos rfl]

theorem hardwareStandbyStep_eq (s : State) :
    s.hardwareStandbyStep = .ok (if s.stbyLow = false ∧ s.resLow = true then s.enterReset else s) := by
  have hc : (!s.stbyLow && s.resLow) = true ↔ s.stbyLow = false ∧ s.resLow = true := by simp
  rw [State.hardwareStandbyStep, apply_ite Except.ok]
  exact if_congr hc rfl rfl

theorem step_of_hardwareStandby {s : State} (hp : s.pstate = .hardwareStandby) :
    step s = .next (if s.stbyLow = false ∧ s.resLow = true then s.samplePins.enterReset else s.samplePins).resFalls := by
  simp only [step, State.sampledStep, samplePins_pstate, hp]
  rw [hardwareStandbyStep_eq]
  rfl

/-- What is left of the state on entering the reset state. -/
theorem enteredReset (s : State) :
    let t := s.samplePins.enterReset.resFalls
    t.pstate = .reset ∧ t.flag .I = true ∧ t.syscr = 0x0B#8 ∧ SameCellsButModules true s t ∧ t.nmiRequest = false ∧
      t.moduleRequests = [] := by
  obtain ⟨b, d, h⟩ := resFalls_eq s.samplePins.enterReset
  rw [h]
  refine ⟨rfl, ?_, rfl, enterReset_cells s.samplePins, rfl, rfl⟩
  simp [State.flag, State.enterReset, State.setI]

/-- What is left of the state on entering hardware standby mode. -/
theorem enteredHardwareStandby (s : State) :
    let t := s.samplePins.enterHardwareStandby.resFalls
    t.pstate = .hardwareStandby ∧ SameCellsButModules true s t ∧ t.syscr = 0x0B#8 ∧ t.ipra = 0#8 ∧
      t.nmiRequest = false ∧ t.moduleRequests = [] := by
  obtain ⟨b, d, h⟩ := resFalls_eq s.samplePins.enterHardwareStandby
  rw [h]
  exact ⟨rfl, enterHardwareStandby_cells s.samplePins, rfl, rfl, rfl, rfl⟩

/-- Waiting changes no cell. -/
theorem waited (s : State) :
    let t := s.samplePins.resFalls
    t.pstate = s.pstate ∧ SameCells s t := by
  obtain ⟨b, d, h⟩ := resFalls_eq s.samplePins
  rw [h]
  exact ⟨rfl, fun _ => rfl⟩

theorem SameCells.butModules {s t : State} (h : SameCells s t) (ports : Bool) : SameCellsButModules ports s t :=
  fun k _ => h k

/-- Settles O58: each processing state looks at the two pins first. -/
theorem resetAndStandbyPins : Obligations.ResetAndStandbyPins := by
  intro s
  obtain ⟨hrp, hrI, hrs, hrc, hrn, hrm⟩ := enteredReset s
  obtain ⟨hhp, hhc, hhs, hhi, hhn, hhm⟩ := enteredHardwareStandby s
  obtain ⟨hwp, hwc⟩ := waited s
  refine ⟨fun hr hp => ⟨_, step_of_resLow hp hr, hrp, hrI, hrs, hrc, hrn, hrm⟩, fun hr hs hp => ?_, fun hs hp => ?_,
    fun hs hr => ?_, fun hp => ?_⟩
  · exact ⟨_, by rw [step_of_reset hp, resetStep_of_resLow (s := s.samplePins) hs hr]; rfl, hwp.trans hp, hwc⟩
  · exact ⟨_, by rw [step_of_reset hp, resetStep_of_stbyLow (s := s.samplePins) hs]; rfl, hhp, hhc, hhs, hhi, hhn, hhm⟩
  · cases hp : s.pstate with
    | hardwareStandby =>
      have hstep : step s = .next s.samplePins.resFalls := by
        rw [step_of_hardwareStandby hp, if_neg (by simp [hs])]
      exact ⟨_, hstep, hwp.trans hp, hwc.butModules true, fun _ => hwc, fun h => absurd rfl h⟩
    | reset =>
      exact ⟨_, by rw [step_of_reset hp, resetStep_of_stbyLow (s := s.samplePins) hs]; rfl, hhp, hhc, nofun, fun _ => ⟨hhs, hhi, hhn, hhm⟩⟩
    | program | sleep | softwareStandby =>
      exact ⟨_, step_of_stbyLow (by simp [ProcessingState.inProgram, hp]) hr hs, hhp, hhc, nofun,
        fun _ => ⟨hhs, hhi, hhn, hhm⟩⟩
  · rw [step_of_hardwareStandby hp]
    by_cases h : s.stbyLow = false ∧ s.resLow = true
    · rw [if_pos h, if_pos h]
      exact ⟨_, rfl, hrc, fun h' => absurd (hrp.symm.trans h') (by decide), hrp, fun _ => ⟨hrn, hrm⟩⟩
    · rw [if_neg h, if_neg h]
      exact ⟨_, rfl, hwc.butModules true, fun _ => hwc, hwp.trans hp,
        fun h' => absurd ((hwp.trans hp).symm.trans h') (by decide)⟩

/-! ### Reset exception handling (R370, R374) -/

/-- Below on-chip RAM the map does not depend on RAME (R93, R94). -/
theorem locate_belowRam {s t : State} (hm : t.mcuMode = s.mcuMode) (hp : t.product = s.product)
    (hf : t.platform = s.platform) {a : Addr}
    (ha : phys s.mcuMode a < topBase s.mcuMode + Product.ramStart s.product) : t.locate a = s.locate a := by
  have e : ∀ p, t.platformKind p = s.platformKind p := fun p => by
    simp only [State.platformKind, State.platformRegion, hf]
  have x : ∀ p k, t.externalPlace p k = s.externalPlace p k := fun p k => by simp only [State.externalPlace, e]
  have y : ∀ p k, t.internalPlace p k = s.internalPlace p k := fun p k => by simp only [State.internalPlace, e]
  have hn : ∀ q, ¬ (topBase s.mcuMode + Product.ramStart s.product ≤ phys s.mcuMode a ∧ q) := fun q h => by omega
  simp only [State.locate, hm, hp, x, y, if_neg (hn _)]

theorem samplePins_peek (s : State) {a : Addr} (h : (s.locate a).isMemory = true) :
    s.samplePins.peekByte a = s.peekByte a := by
  unfold State.peekByte
  rw [samplePins_locate]
  cases hl : s.locate a <;> simp_all [Place.isMemory]

theorem peekByte_of_cell {s : State} {a : Addr} {k : Nat} (h : s.locate a = .ram k ∨ s.locate a = .rom k) :
    s.peekByte a = .ok (s.mem.read k) := by
  rcases h with h | h <;> simp only [State.peekByte, h]

/-- What reset exception handling leaves before it reads the reset vector. -/
def State.released (s : State) : State :=
  (s.initialiseControl.scrambleRegisters.scrambleRam.setI).holdOff.setPstate .program

@[simp] theorem released_mcuMode (s : State) : s.released.mcuMode = s.mcuMode := rfl
@[simp] theorem released_product (s : State) : s.released.product = s.product := rfl
@[simp] theorem released_platform (s : State) : s.released.platform = s.platform := rfl

theorem released_locate {s : State} {a : Addr} (ha : phys s.mcuMode a < topBase s.mcuMode + Product.ramStart s.product) :
    s.released.locate a = s.locate a :=
  locate_belowRam (released_mcuMode s) (released_product s) (released_platform s) ha

theorem releaseReset_eq (s : State) : s.releaseReset = s.released.vectorTo 0 := rfl

/-- Reset takes free values into on-chip RAM and module registers only (R60, R432). -/
theorem released_read {s : State} {k : Nat}
    (hr : k < topBase s.mcuMode + Product.ramStart s.product ∨ topBase s.mcuMode + 0xFF10 ≤ k)
    (hk : s.moduleCell true k = false) : s.released.mem.read k = s.mem.read k := by
  have hb := ramStart_bounds s.product
  refine (Memory.read_scramble_other _ _ _ _ _ fun h1 h2 => ?_).trans (resetModules_read s hk)
  have h1' : topBase s.mcuMode + Product.ramStart s.product ≤ k := h1
  have h2' : k < topBase s.mcuMode + Product.ramStart s.product + (0xFF10 - Product.ramStart s.product) := h2
  omega

theorem topBase_add_le (m : McuMode) : topBase m + 0x10000 ≤ behindRam := by
  cases m <;> decide

/-- The reset vector is where it was: its four bytes lie below on-chip RAM and are no module registers. -/
theorem released_holds {s : State} {v : Long} (h : HoldsLong s 0#24 v) : HoldsLong s.released 0#24 v := by
  intro j hj
  obtain ⟨hm, hv⟩ := h j hj
  have htop := topBase_le s.mcuMode
  have hend := topBase_add_le s.mcuMode
  have hb := ramStart_bounds s.product
  have hphys : phys s.mcuMode (0#24 + BitVec.ofNat 24 j) = j := by
    rw [BitVec.zero_add]
    unfold phys
    rw [BitVec.toNat_ofNat]
    split <;> omega
  have hl : s.released.locate (0#24 + BitVec.ofNat 24 j) = s.locate (0#24 + BitVec.ofNat 24 j) :=
    released_locate (by omega)
  obtain ⟨k, hk⟩ := Place.isMemory_iff.mp hm
  have hcell : j = k % behindRam := hphys.symm.trans (phys_of_locate_cell (by rcases hk with hk | hk <;> rw [hk] <;> rfl))
  rw [show behindRam = 0x1000000 from rfl] at hcell hend
  have hread : s.released.mem.read k = s.mem.read k := by
    refine released_read (by omega) ?_
    cases hc : s.moduleCell true k with
    | false => rfl
    | true =>
      obtain ⟨h1, h2⟩ := moduleCell_window hc
      omega
  refine ⟨by rw [hl]; exact hm, ?_⟩
  rw [peekByte_of_cell (by rwa [hl]), hread, ← peekByte_of_cell hk, hv]

/-- Settles O57: the reset vector survives what reset exception handling does before it reads it. -/
theorem resetExceptionHandling : Obligations.ResetExceptionHandling := by
  intro s v hp hr hs h
  have hv : s.samplePins.released.vectorTo 0 = .ok (s.samplePins.released.setPc (ea24 v)) := by
    have hsampled : HoldsLong s.samplePins 0#24 v := fun j hj =>
      ⟨by rw [samplePins_locate]; exact (h j hj).1, (samplePins_peek s (h j hj).1).trans (h j hj).2⟩
    have hzero : evenAddr (BitVec.ofNat 24 (4 * 0)) = 0#24 := by decide
    rw [State.vectorTo, readLong_of_holds (by rw [hzero]; exact released_holds hsampled)]
    rfl
  obtain ⟨b, d, hfalls⟩ := resFalls_eq (s.samplePins.released.setPc (ea24 v))
  have hstep : step s = .next (s.samplePins.released.setPc (ea24 v)).resFalls := by
    rw [step_of_reset hp, State.resetStep, samplePins_stbyLow, samplePins_resLow, hs, hr, if_neg Bool.false_ne_true,
      if_neg Bool.false_ne_true, releaseReset_eq, hv]
    rfl
  refine ⟨_, hstep, ?_⟩
  rw [hfalls]
  refine ⟨rfl, by simp [State.flag, State.released, State.setI, State.setPc, State.setPstate, State.holdOff], rfl, rfl,
    rfl, rfl, rfl, rfl, rfl, rfl, rfl, rfl, rfl, rfl, fun k hk hm => released_read (s := s.samplePins) hk hm⟩

/-! ### Sleep and software standby mode (R403, R404) -/

theorem step_of_sleep {s : State} (hp : s.pstate = .sleep) (hr : s.resLow = false) (hs : s.stbyLow = false) :
    step s = settle (finish s.samplePins.sleepStep) := by
  simp only [step, State.sampledStep, samplePins_pstate, hp, samplePins_resLow, hr, samplePins_stbyLow, hs,
    Bool.false_eq_true, if_false]

theorem step_of_softwareStandby {s : State} (hp : s.pstate = .softwareStandby) (hr : s.resLow = false)
    (hs : s.stbyLow = false) : step s = settle (finish s.samplePins.standbyStep) := by
  simp only [step, State.sampledStep, samplePins_pstate, hp, samplePins_resLow, hr, samplePins_stbyLow, hs,
    Bool.false_eq_true, if_false]

/-- Settles O60: with no request accepted only waking changes the processing state. -/
theorem sleepAndStandby : Obligations.SleepAndStandby := by
  intro s hr hd hs ha
  refine ⟨fun hp => ?_, fun hp => ⟨fun hw => ?_, fun hw => ?_⟩⟩
  · rw [step_of_sleep hp hr hs, State.sleepStep, ha]
    exact congrArg Host.Outcome.next (resFalls_of hd)
  · rw [step_of_softwareStandby hp hr hs, State.standbyStep, hw, if_neg Bool.false_ne_true]
    exact congrArg Host.Outcome.next (resFalls_of hd)
  · rw [step_of_softwareStandby hp hr hs, State.standbyStep, hw, if_pos rfl, ha]
    exact congrArg Host.Outcome.next (resFalls_of (s := s.samplePins.setPstate .program) hd)

/-! ### RES falling during a step (R406) -/

/-- A store with RES going low before its first write is abandoned as it stands. -/
theorem storeWord_abandoned {s : State} {w : Nat} {a : Addr} (v : Word) (h : s.resDuring = some 0) :
    s.storeWord w a v = .error (.abandoned s) := by
  have hadmit : ∀ nb b, s.admitStore w nb b = .error (.abandoned s) := fun nb b =>
    admitStore_abandoned.mpr ⟨h, rfl⟩
  unfold State.storeWord State.storeByte
  split <;> rw [hadmit] <;> rfl

theorem storeLong_abandoned {s : State} {w : Nat} {a : Addr} (v : Long) (h : s.resDuring = some 0) :
    s.storeLong w a v = .error (.abandoned s) := by
  rw [State.storeLong, storeWord_abandoned _ h]
  rfl

theorem takeException_abandoned {s : State} {w k : Nat} {ret : Addr} (h : s.resDuring = some 0) :
    s.takeException w k ret = .error (.abandoned (s.setReg32 sp (s.reg32 sp - 4))) := by
  have hpush : s.pushLong w (s.ccr ++ ret) = .error (.abandoned (s.setReg32 sp (s.reg32 sp - 4))) :=
    storeLong_abandoned _ h
  rw [State.takeException, hpush]
  rfl

/-- Settles O59: an entry whose first write RES forestalls has changed nothing in memory. -/
theorem resetDuringStep : Obligations.ResetDuringStep := by
  refine ⟨fun s t => step_resLow, fun s r hp hr hs ha hd => ?_⟩
  obtain ⟨n, i, j, hack⟩ := acknowledge_eq s.samplePins r
  obtain ⟨u, hu⟩ : ∃ u, u = (s.samplePins.acknowledge r).setPstate .program := ⟨_, rfl⟩
  have hfields : u.resDuring = some 0 ∧ u.mem = s.mem ∧ u.mcuMode = s.mcuMode ∧ u.platform = s.platform := by
    rw [hu, hack]
    exact ⟨hd, rfl, rfl, rfl⟩
  obtain ⟨hd', hmem, hmode, hplatform⟩ := hfields
  have henter : s.samplePins.enterInterrupt r = .error (.abandoned (u.setReg32 sp (u.reg32 sp - 4))) := by
    rw [State.enterInterrupt, ← hu, takeException_abandoned hd']
  have hstep : step s = .next (u.setReg32 sp (u.reg32 sp - 4)).abandon := by
    simp only [step, State.sampledStep, samplePins_pstate, hp, samplePins_resLow, hr, samplePins_stbyLow, hs,
      Bool.false_eq_true, if_false, State.programStep, ha, henter]
    rfl
  refine ⟨_, hstep, rfl, rfl, by simp [State.flag, State.abandon, State.enterReset, State.setI], rfl, rfl, rfl, rfl, rfl,
    rfl, rfl, rfl, ?_⟩
  exact sameCellsButModules_of (u := u.setReg32 sp (u.reg32 sp - 4)) hmode hplatform
    (fun k => congrArg (Memory.read · k) hmem) (enterReset_cells _)

end Sys2Proof.Machine

/-! ### Stores (R75 to R78, R99, R104, R406) -/

namespace Sys2Proof.Machine

/-! ### What a store leaves alone -/

/-- `t` is `s` but for general registers, PC, CCR, the hold-off and the count of free values. -/
def CpuTo (s t : State) : Prop :=
  ∃ e p c i d, t = { s with er := e, pc := p, ccr := c, irqInhibit := i, draws := d }

theorem CpuTo.refl (s : State) : CpuTo s s := ⟨_, _, _, _, _, Eq.refl s⟩

theorem CpuTo.trans {s t u : State} (h : CpuTo s t) (h' : CpuTo t u) : CpuTo s u := by
  obtain ⟨e, p, c, i, d, rfl⟩ := h
  obtain ⟨e', p', c', i', d', rfl⟩ := h'
  exact ⟨e', p', c', i', d', Eq.refl _⟩

theorem cpuTo_preDecrement (s : State) (nb : Nat) (m : Mode) : CpuTo s (s.preDecrement nb m) := by
  obtain ⟨e, h⟩ := preDecrement_eq s nb m
  rw [h]
  exact ⟨_, _, _, _, _, Eq.refl _⟩

theorem CpuTo.locate {s t : State} (h : CpuTo s t) (a : Addr) : t.locate a = s.locate a := by
  obtain ⟨e, p, c, i, d, rfl⟩ := h
  exact locate_congr rfl rfl rfl rfl a

theorem CpuTo.writeReg {s t : State} (h : CpuTo s t) (r : IoReg) (v : Byte) :
    CpuTo (s.writeReg r v) (t.writeReg r v) := by
  obtain ⟨e, p, c, i, d, rfl⟩ := h
  cases r <;> exact ⟨e, p, c, i, d, rfl⟩

theorem CpuTo.mem {s t : State} (h : CpuTo s t) : t.mem = s.mem := by
  obtain ⟨e, p, c, i, d, rfl⟩ := h
  rfl

theorem CpuTo.mcuMode {s t : State} (h : CpuTo s t) : t.mcuMode = s.mcuMode := by
  obtain ⟨e, p, c, i, d, rfl⟩ := h
  rfl

theorem CpuTo.resDuring {s t : State} (h : CpuTo s t) : t.resDuring = s.resDuring := by
  obtain ⟨e, p, c, i, d, rfl⟩ := h
  rfl

theorem CpuTo.sameControl {s t : State} (h : CpuTo s t) : SameControl s t := by
  obtain ⟨e, p, c, i, d, rfl⟩ := h
  exact ⟨rfl, rfl, rfl, rfl, rfl, rfl, rfl⟩

theorem CpuTo.sameDevices {s t : State} (h : CpuTo s t) : SameDevices s t := by
  obtain ⟨e, p, c, i, d, rfl⟩ := h
  exact ⟨rfl, rfl⟩

theorem CpuTo.sameInputs {s t : State} (h : CpuTo s t) : SameInputs s t := by
  obtain ⟨e, p, c, i, d, rfl⟩ := h
  exact ⟨rfl, rfl, rfl, rfl, rfl, rfl, rfl, rfl, rfl⟩

theorem CpuTo.sameProcessing {s t : State} (h : CpuTo s t) : SameProcessing s t := by
  obtain ⟨e, p, c, i, d, rfl⟩ := h
  exact ⟨rfl, rfl, rfl, rfl⟩

theorem CpuTo.wideDevice {s t : State} (h : CpuTo s t) (a : Addr) : t.wideDevice a = s.wideDevice a := by
  simp only [State.wideDevice, h.locate]

theorem SameControl.trans {s t u : State} (h : SameControl s t) (h' : SameControl t u) : SameControl s u :=
  ⟨h'.syscr.trans h.syscr, h'.iscr.trans h.iscr, h'.ier.trans h.ier, h'.isr.trans h.isr,
    h'.isrRead.trans h.isrRead, h'.ipra.trans h.ipra, h'.iprb.trans h.iprb⟩

theorem SameDevices.trans {s t u : State} (h : SameDevices s t) (h' : SameDevices t u) : SameDevices s u :=
  ⟨h'.answers.trans h.answers, h'.calls.trans h.calls⟩

theorem SameInputs.trans {s t u : State} (h : SameInputs s t) (h' : SameInputs t u) : SameInputs s u :=
  ⟨h'.mcuMode.trans h.mcuMode, h'.product.trans h.product, h'.platform.trans h.platform,
    h'.iprbLayout.trans h.iprbLayout, h'.resLow.trans h.resLow, h'.resDuring.trans h.resDuring,
    h'.stbyLow.trans h.stbyLow, h'.pins.trans h.pins, h'.pinsSeen.trans h.pinsSeen⟩

theorem SameProcessing.trans {s t u : State} (h : SameProcessing s t) (h' : SameProcessing t u) : SameProcessing s u :=
  ⟨h'.pstate.trans h.pstate, h'.nmiRequest.trans h.nmiRequest, h'.moduleRequests.trans h.moduleRequests,
    h'.nmiDuringTransfer.trans h.nmiDuringTransfer⟩

/-- `t` is `s` after writes: only cells, the calls of devices and the control registers may differ. -/
def WritesTo (s t : State) : Prop :=
  ∃ m c y i e f r a b, t = { s with
    mem := m, deviceCalls := c, syscr := y, iscr := i, ier := e, isr := f, isrRead := r, ipra := a, iprb := b }

theorem WritesTo.refl (s : State) : WritesTo s s := ⟨_, _, _, _, _, _, _, _, _, Eq.refl s⟩

theorem WritesTo.trans {s t u : State} (h : WritesTo s t) (h' : WritesTo t u) : WritesTo s u := by
  obtain ⟨m, c, y, i, e, f, r, a, b, rfl⟩ := h
  obtain ⟨m', c', y', i', e', f', r', a', b', rfl⟩ := h'
  exact ⟨m', c', y', i', e', f', r', a', b', Eq.refl _⟩

theorem WritesTo.sameInputs {s t : State} (h : WritesTo s t) : SameInputs s t := by
  obtain ⟨m, c, y, i, e, f, r, a, b, rfl⟩ := h
  exact ⟨rfl, rfl, rfl, rfl, rfl, rfl, rfl, rfl, rfl⟩

theorem WritesTo.sameProcessing {s t : State} (h : WritesTo s t) : SameProcessing s t := by
  obtain ⟨m, c, y, i, e, f, r, a, b, rfl⟩ := h
  exact ⟨rfl, rfl, rfl, rfl⟩

theorem WritesTo.reg32 {s t : State} (h : WritesTo s t) (n : RegNum) : t.reg32 n = s.reg32 n := by
  obtain ⟨m, c, y, i, e, f, r, a, b, rfl⟩ := h
  rfl

theorem WritesTo.pc {s t : State} (h : WritesTo s t) : t.pc = s.pc := by
  obtain ⟨m, c, y, i, e, f, r, a, b, rfl⟩ := h
  rfl

theorem WritesTo.ccr {s t : State} (h : WritesTo s t) : t.ccr = s.ccr := by
  obtain ⟨m, c, y, i, e, f, r, a, b, rfl⟩ := h
  rfl

theorem WritesTo.irqInhibit {s t : State} (h : WritesTo s t) : t.irqInhibit = s.irqInhibit := by
  obtain ⟨m, c, y, i, e, f, r, a, b, rfl⟩ := h
  rfl

theorem writesTo_of_writeByte {s t : State} {a : Addr} {v : Byte} (h : s.writeByte a v = .ok t) : WritesTo s t := by
  rcases writeByte_ok h with ⟨k, -, rfl⟩ | ⟨-, rfl⟩ | ⟨w, -, rfl⟩ | ⟨r, -, rfl⟩
  · exact ⟨_, _, _, _, _, _, _, _, _, Eq.refl _⟩
  · exact .refl _
  · exact ⟨_, _, _, _, _, _, _, _, _, Eq.refl _⟩
  · cases r <;> exact ⟨_, _, _, _, _, _, _, _, _, Eq.refl _⟩

/-! ### What a completed store has stored -/

theorem storedByte_of_writeByte {s t : State} {a : Addr} {v : Byte} (hm : s.mem.wf = true)
    (h : s.writeByte a v = .ok t) : StoredByte a v s t := by
  have hcontrol : SameControl s s := ⟨rfl, rfl, rfl, rfl, rfl, rfl, rfl⟩
  rw [StoredByte]
  rcases writeByte_ok h with ⟨k, hl | hl, rfl⟩ | ⟨⟨k, hl⟩ | hl, rfl⟩ | ⟨w, hl, rfl⟩ | ⟨r, hl, rfl⟩ <;> rw [hl]
  · exact ⟨fun j => Memory.read_write k j v hm, ⟨rfl, rfl, rfl, rfl, rfl, rfl, rfl⟩, ⟨rfl, rfl⟩⟩
  · exact ⟨fun j => Memory.read_write k j v hm, ⟨rfl, rfl, rfl, rfl, rfl, rfl, rfl⟩, ⟨rfl, rfl⟩⟩
  · exact ⟨fun _ => rfl, hcontrol, ⟨rfl, rfl⟩⟩
  · exact ⟨fun _ => rfl, hcontrol, ⟨rfl, rfl⟩⟩
  · exact ⟨fun _ => rfl, ⟨rfl, rfl, rfl, rfl, rfl, rfl, rfl⟩, rfl, rfl⟩
  · refine ⟨fun j => by rw [writeReg_mem], ⟨rfl, rfl, rfl, rfl, rfl, rfl, rfl⟩, ?_⟩
    cases r <;> exact ⟨rfl, rfl⟩

theorem admitStore_unchanged {s t : State} {w nb : Nat} {a : Addr} (hr : s.resDuring = none)
    (h : s.admitStore w nb a = .ok t) : t = s := by
  obtain ⟨-, hs, -⟩ := admitStore_ok h
  exact (Except.ok.inj ((admitStore_of hr hs).symm.trans h)).symm

theorem writeByte_of_storeByte {s t : State} {w : Nat} {a : Addr} {v : Byte} (hr : s.resDuring = none)
    (h : s.storeByte w a v = .ok t) : s.writeByte a v = .ok t := by
  obtain ⟨s1, h1, h2⟩ := storeByte_ok h
  rwa [admitStore_unchanged hr h1] at h2

/-- A completed word store has been one call of a wide device, or two byte writes. -/
theorem storeWord_writes {s t : State} {w : Nat} {a : Addr} {v : Word} (hr : s.resDuring = none)
    (h : s.storeWord w a v = .ok t) :
    (s.wideDevice (evenAddr a) = true ∧ t = s.callWrite (evenAddr a) 2 v) ∨
    (s.wideDevice (evenAddr a) = false ∧ ∃ s1, s.writeByte (evenAddr a) (v.extractLsb' 8 8) = .ok s1 ∧
      s1.writeByte (evenAddr a + 1) (v.extractLsb' 0 8) = .ok t) := by
  rcases storeWord_ok h with ⟨-, s1, h1, h2⟩ | ⟨hc, s1, h1, h2⟩
  · rw [admitStore_unchanged hr h1] at h2
    exact writeWord_ok h2
  · have hw1 := writeByte_of_storeByte hr h1
    have hr1 : s1.resDuring = none := (writesTo_of_writeByte hw1).sameInputs.resDuring.trans hr
    rw [State.singleCycle, Bool.or_eq_false_iff] at hc
    exact .inr ⟨hc.1, s1, hw1, writeByte_of_storeByte hr1 h2⟩

theorem writesTo_of_storeByte {s t : State} {w : Nat} {a : Addr} {v : Byte} (hr : s.resDuring = none)
    (h : s.storeByte w a v = .ok t) : WritesTo s t :=
  writesTo_of_writeByte (writeByte_of_storeByte hr h)

theorem writesTo_of_storeWord {s t : State} {w : Nat} {a : Addr} {v : Word} (hr : s.resDuring = none)
    (h : s.storeWord w a v = .ok t) : WritesTo s t := by
  rcases storeWord_writes hr h with ⟨-, rfl⟩ | ⟨-, s1, h1, h2⟩
  · exact ⟨_, _, _, _, _, _, _, _, _, Eq.refl _⟩
  · exact (writesTo_of_writeByte h1).trans (writesTo_of_writeByte h2)

theorem writesTo_of_storeLong {s t : State} {w : Nat} {a : Addr} {v : Long} (hr : s.resDuring = none)
    (h : s.storeLong w a v = .ok t) : WritesTo s t := by
  obtain ⟨s1, h1, h2⟩ := storeLong_ok h
  have hw := writesTo_of_storeWord hr h1
  exact hw.trans (writesTo_of_storeWord (hw.sameInputs.resDuring.trans hr) h2)

theorem storedByte_of_storeByte {s t : State} {w : Nat} {a : Addr} {v : Byte} (hr : s.resDuring = none)
    (hm : s.mem.wf = true) (h : s.storeByte w a v = .ok t) : StoredByte a v s t :=
  storedByte_of_writeByte hm (writeByte_of_storeByte hr h)

theorem storedWord_of_storeWord {s t : State} {w : Nat} {a : Addr} {v : Word} (hr : s.resDuring = none)
    (hm : s.mem.wf = true) (h : s.storeWord w a v = .ok t) : StoredWord a v s t := by
  rw [StoredWord]
  rcases storeWord_writes hr h with ⟨hw, rfl⟩ | ⟨hw, s1, h1, h2⟩
  · rw [if_pos hw]
    exact ⟨fun _ => rfl, ⟨rfl, rfl, rfl, rfl, rfl, rfl, rfl⟩, rfl, rfl⟩
  · rw [hw, if_neg Bool.false_ne_true]
    exact ⟨s1, (writesTo_of_writeByte h1).sameInputs, storedByte_of_writeByte hm h1,
      storedByte_of_writeByte (writeByte_wf hm h1) h2⟩

theorem storedLong_of_storeLong {s t : State} {w : Nat} {a : Addr} {v : Long} (hr : s.resDuring = none)
    (hm : s.mem.wf = true) (h : s.storeLong w a v = .ok t) : StoredLong a v s t := by
  obtain ⟨s1, h1, h2⟩ := storeLong_ok h
  have hin := (writesTo_of_storeWord hr h1).sameInputs
  have hw1 := storedWord_of_storeWord hr hm h1
  have hw2 := storedWord_of_storeWord (hin.resDuring.trans hr) ((wf_stable.storeWord hm w _ _).1 s1 h1) h2
  rw [StoredWord, evenAddr_idem] at hw1
  rw [StoredWord, evenAddr_add_two] at hw2
  exact ⟨s1, hin, by rwa [StoredWord], by rwa [StoredWord, evenAddr_add_two]⟩

/-! ### Stores and changes of CPU registers -/

theorem CalledDevice.of_cpu {a : Addr} {nb : Nat} {v : Word} {s u s1 t : State} (hs : CpuTo s u) (ht : CpuTo s1 t)
    (h : CalledDevice a nb v u s1) : CalledDevice a nb v s t where
  cells k := by rw [ht.mem, h.cells, hs.mem]
  control := (hs.sameControl.trans h.control).trans ht.sameControl
  answers := ht.sameDevices.answers.trans (h.answers.trans hs.sameDevices.answers)
  calls := by rw [ht.sameDevices.calls, h.calls, hs.sameDevices.calls, hs.mcuMode]

theorem StoredByte.of_cpu {a : Addr} {v : Byte} {s u s1 t : State} (hs : CpuTo s u) (ht : CpuTo s1 t)
    (h : StoredByte a v u s1) : StoredByte a v s t := by
  rw [StoredByte, hs.locate] at h
  rw [StoredByte]
  have hdevices : SameDevices u s1 → SameDevices s t := fun hd => (hs.sameDevices.trans hd).trans ht.sameDevices
  have hcontrol : SameControl u s1 → SameControl s t := fun hc => (hs.sameControl.trans hc).trans ht.sameControl
  cases hl : s.locate a with
  | ram k | writeOnly k =>
    rw [hl] at h
    obtain ⟨hc, hk, hd⟩ := h
    exact ⟨fun j => by rw [ht.mem, hc, hs.mem], hcontrol hk, hdevices hd⟩
  | rom k | disabledRam =>
    rw [hl] at h
    obtain ⟨hc, hk, hd⟩ := h
    exact ⟨fun j => by rw [ht.mem, hc, hs.mem], hcontrol hk, hdevices hd⟩
  | device w =>
    rw [hl] at h
    exact h.of_cpu hs ht
  | reg r =>
    rw [hl] at h
    obtain ⟨hc, hk, hd⟩ := h
    exact ⟨fun j => by rw [ht.mem, hc, hs.mem], ((hs.writeReg r v).sameControl.trans hk).trans ht.sameControl,
      hdevices hd⟩
  | stop why =>
    rw [hl] at h
    exact h

theorem StoredWord.of_cpu {a : Addr} {v : Word} {s u s1 t : State} (hs : CpuTo s u) (ht : CpuTo s1 t)
    (h : StoredWord a v u s1) : StoredWord a v s t := by
  rw [StoredWord, hs.wideDevice] at h
  rw [StoredWord]
  by_cases hw : s.wideDevice (evenAddr a) = true
  · rw [if_pos hw] at h ⊢
    exact h.of_cpu hs ht
  · rw [if_neg hw] at h ⊢
    obtain ⟨m, hin, h1, h2⟩ := h
    exact ⟨m, hs.sameInputs.trans hin, h1.of_cpu hs (.refl m), h2.of_cpu (.refl m) ht⟩

theorem StoredLong.of_cpu {a : Addr} {v : Long} {s u s1 t : State} (hs : CpuTo s u) (ht : CpuTo s1 t)
    (h : StoredLong a v u s1) : StoredLong a v s t := by
  obtain ⟨m, hin, h1, h2⟩ := h
  exact ⟨m, hs.sameInputs.trans hin, h1.of_cpu hs (.refl m), h2.of_cpu (.refl m) ht⟩

/-! ### Where a store completes -/

/-- Whether an address leads nowhere does not depend on RAME (R93, R94). -/
theorem locate_stop_congr {s t : State} (h : SameInputs s t) {a : Addr} {why : Stop} :
    t.locate a = .stop why ↔ s.locate a = .stop why := by
  have e : ∀ p, t.platformKind p = s.platformKind p := fun p => by
    simp only [State.platformKind, State.platformRegion, h.platform]
  have x : ∀ p k, t.externalPlace p k = s.externalPlace p k := fun p k => by simp only [State.externalPlace, e]
  have y : ∀ p k, t.internalPlace p k = s.internalPlace p k := fun p k => by simp only [State.internalPlace, e]
  have hn : ∀ p k, s.externalPlace p k ≠ .stop why := fun p k => by unfold State.externalPlace; split <;> simp
  simp only [State.locate, h.mcuMode, h.product, x, y]
  split_ifs <;> simp_all

theorem inStream_congr {s t : State} (hm : t.mcuMode = s.mcuMode) (hp : t.pc = s.pc) (w : Nat) (a : Addr) :
    t.inStream w a = s.inStream w a := by
  simp only [State.inStream, hm, hp]

theorem Storable.congr {s t : State} {w nb : Nat} {a : Addr} (hin : SameInputs s t) (hpc : t.pc = s.pc)
    (hs : Storable s w nb a) : Storable t w nb a := fun j hj => by
  obtain ⟨h1, h2⟩ := hs j hj
  exact ⟨by rw [inStream_congr hin.mcuMode hpc, h1], fun why hl => h2 why ((locate_stop_congr hin).mp hl)⟩

theorem Storable.of_writes {s t : State} {w nb : Nat} {a : Addr} (h : WritesTo s t) (hs : Storable s w nb a) :
    Storable t w nb a := hs.congr h.sameInputs h.pc

theorem writeByte_of_leads {s : State} {a : Addr} (v : Byte) (h : ∀ why, s.locate a ≠ .stop why) :
    ∃ t, s.writeByte a v = .ok t := by
  rw [State.writeByte]
  cases hl : s.locate a with
  | stop why => exact absurd hl (h why)
  | ram k | rom k | writeOnly k | disabledRam | device w | reg r => exact ⟨_, rfl⟩

theorem storeByte_completes {s : State} {w : Nat} {a : Addr} (v : Byte) (hr : s.resDuring = none)
    (h : Storable s w 1 a) : ∃ t, s.storeByte w a v = .ok t := by
  obtain ⟨h1, h2⟩ := h 0 Nat.one_pos
  simp only [BitVec.add_zero] at h1 h2
  rw [storeByte_of hr h1]
  exact writeByte_of_leads v h2

theorem storeWord_completes {s : State} {w : Nat} {a : Addr} (v : Word) (hr : s.resDuring = none)
    (h : Storable s w 2 (evenAddr a)) : ∃ t, s.storeWord w a v = .ok t := by
  have hfirst : Storable s w 1 (evenAddr a) := fun j hj => h j (by omega)
  have hsecond : ∀ u, WritesTo s u → Storable u w 1 (evenAddr a + 1) := fun u hu j hj => by
    obtain rfl : j = 0 := by omega
    simpa using (h.of_writes hu) 1 (by omega)
  rw [State.storeWord]
  split
  · rw [admitStore_of hr fun j hj => (h j hj).1]
    change ∃ t, s.writeWord (evenAddr a) v = .ok t
    rw [State.writeWord]
    split
    · exact ⟨_, rfl⟩
    · obtain ⟨s1, h1⟩ := writeByte_of_leads (v.extractLsb' 8 8) fun why => by simpa using (h 0 (by decide)).2 why
      obtain ⟨t, ht⟩ := writeByte_of_leads (s := s1) (a := evenAddr a + 1) (v.extractLsb' 0 8) fun why => by
        simpa using (hsecond s1 (writesTo_of_writeByte h1) 0 (by decide)).2 why
      exact ⟨t, by rw [h1]; exact ht⟩
  · obtain ⟨s1, h1⟩ := storeByte_completes (v.extractLsb' 8 8) hr hfirst
    have hw := writesTo_of_storeByte hr h1
    obtain ⟨t, ht⟩ := storeByte_completes (v.extractLsb' 0 8) (hw.sameInputs.resDuring.trans hr) (hsecond s1 hw)
    exact ⟨t, by rw [h1]; exact ht⟩

theorem storeLong_completes {s : State} {w : Nat} {a : Addr} (v : Long) (hr : s.resDuring = none)
    (h : Storable s w 4 (evenAddr a)) : ∃ t, s.storeLong w a v = .ok t := by
  obtain ⟨s1, h1⟩ := storeWord_completes (a := evenAddr a) (v.extractLsb' 16 16) hr
    fun j hj => by rw [evenAddr_idem]; exact h j (by omega)
  have hw := writesTo_of_storeWord hr h1
  obtain ⟨t, ht⟩ := storeWord_completes (s := s1) (a := evenAddr a + 2) (w := w) (v.extractLsb' 0 16)
    (hw.sameInputs.resDuring.trans hr) fun j hj => by
      rw [evenAddr_add_two, show evenAddr a + 2 = evenAddr a + BitVec.ofNat 24 2 from rfl, BitVec.add_assoc,
        ← BitVec.ofNat_add]
      exact h.of_writes hw (2 + j) (by omega)
  exact ⟨t, by rw [State.storeLong, h1]; exact ht⟩

end Sys2Proof.Machine

/-! ### Runs of bytes in RAM, whole or broken off where RES goes low (R99, R406) -/

namespace Sys2Proof.Machine

/-- In `m` the first `k` of the bytes that `b` numbers have been written from `a` on to the RAM of `s`, and nothing else. -/
structure WroteFirst (s : State) (a : Addr) (b : Nat → Byte) (k : Nat) (m : Memory) : Prop where
  wf : m.wf = true
  written : ∀ j, j < k → ∀ c, s.locate (a + BitVec.ofNat 24 j) = .ram c → m.read c = b j
  others : ∀ c, (∀ j, j < k → s.locate (a + BitVec.ofNat 24 j) ≠ .ram c) → m.read c = s.mem.read c

theorem wroteFirst_zero {s : State} (a : Addr) (b : Nat → Byte) (hm : s.mem.wf = true) : WroteFirst s a b 0 s.mem :=
  ⟨hm, fun _ hj => by omega, fun _ _ => rfl⟩

/-- Bytes less than a mbyte apart stand at different physical addresses (R72). -/
theorem phys_add_ne (m : McuMode) (a : Addr) {i j : Nat} (hi : i < 0x100000) (hj : j < 0x100000) (h : i ≠ j) :
    phys m (a + BitVec.ofNat 24 i) ≠ phys m (a + BitVec.ofNat 24 j) := by
  simp only [phys, BitVec.toNat_add, BitVec.toNat_ofNat]
  split <;> omega

theorem WroteFirst.succ {s : State} {a : Addr} {b : Nat → Byte} {k c : Nat} {m : Memory} (h : WroteFirst s a b k m)
    (hk : k < 0x100000) (hl : s.locate (a + BitVec.ofNat 24 k) = .ram c) : WroteFirst s a b (k + 1) (m.write c (b k)) where
  wf := Memory.wf_write c (b k) h.wf
  written j hj d hd := by
    rw [Memory.read_write _ _ _ h.wf]
    by_cases hjk : j = k
    · subst hjk
      rw [if_pos (Place.ram.inj (hd.symm.trans hl))]
    · have hne : d ≠ c := cell_ne_of_phys_ne (by rw [hd]; rfl) (by rw [hl]; rfl)
        (phys_add_ne s.mcuMode a (by omega) hk hjk)
      rw [if_neg hne]
      exact h.written j (by omega) d hd
  others d hd := by
    rw [Memory.read_write _ _ _ h.wf, if_neg fun e => hd k (Nat.lt_succ_self k) (by rw [hl, e])]
    exact h.others d fun j hj => hd j (by omega)

theorem WroteFirst.of_cpu {s u : State} {a : Addr} {b : Nat → Byte} {k : Nat} {m : Memory} (hs : CpuTo s u)
    (h : WroteFirst u a b k m) : WroteFirst s a b k m where
  wf := h.wf
  written j hj c hc := h.written j hj c ((hs.locate _).trans hc)
  others c hc := (h.others c fun j hj => by rw [hs.locate]; exact hc j hj).trans (congrArg (Memory.read · c) hs.mem)

/-- `s` in the middle of its stores: memory is `m`, and RES goes low before the write that `r` counts to. -/
def State.midway (s : State) (m : Memory) (r : Option Nat) : State := { s with mem := m, resDuring := r }

@[simp] theorem midway_locate (s : State) (m : Memory) (r : Option Nat) (a : Addr) : (s.midway m r).locate a = s.locate a :=
  locate_congr rfl rfl rfl rfl a

@[simp] theorem midway_inStream (s : State) (m : Memory) (r : Option Nat) (w : Nat) (a : Addr) :
    (s.midway m r).inStream w a = s.inStream w a := rfl

theorem midway_admitStore (s : State) (m : Memory) (w nb : Nat) (a : Addr) :
    (s.midway m (some 0)).admitStore w nb a = .error (.abandoned (s.midway m (some 0))) :=
  admitStore_abandoned.mpr ⟨rfl, rfl⟩

theorem midway_self (s : State) : s.midway s.mem s.resDuring = s := rfl

/-- What a program of bus cycles writes from byte `n` of a run on, `cs` listing the bytes of each cycle: where RES goes low
before a cycle, the bytes of the cycles before it; else all. -/
def RunsFrom (s : State) (a : Addr) (b : Nat → Byte) (n : Nat) (cs : List Nat) (f : State → Res State) : Prop :=
  ∀ m r, WroteFirst s a b n m →
    (∀ k, k < cs.length → r = some k → ∃ m', WroteFirst s a b (n + (cs.take k).sum) m' ∧
      f (s.midway m r) = .error (.abandoned (s.midway m' (some 0)))) ∧
    ((∀ k, r = some k → cs.length ≤ k) → ∃ m', WroteFirst s a b (n + cs.sum) m' ∧
      f (s.midway m r) = .ok (s.midway m' (r.map fun k => k - cs.length)))

theorem RunsFrom.bind {s : State} {a : Addr} {b : Nat → Byte} {n : Nat} {cs ds : List Nat} {f g : State → Res State}
    (hf : RunsFrom s a b n cs f) (hg : RunsFrom s a b (n + cs.sum) ds g) :
    RunsFrom s a b n (cs ++ ds) fun u => f u >>= g := by
  intro m r hm
  obtain ⟨hf1, hf2⟩ := hf m r hm
  refine ⟨fun k hk hr => ?_, fun hr => ?_⟩
  · by_cases hc : k < cs.length
    · obtain ⟨m', hm', he⟩ := hf1 k hc hr
      exact ⟨m', by rwa [List.take_append_of_le_length (by omega)], by simp only [he]; rfl⟩
    · obtain ⟨m1, hm1, h1⟩ := hf2 fun k' hk' => by rw [hr] at hk'; cases hk'; omega
      obtain ⟨m2, hm2, h2⟩ := (hg m1 (some (k - cs.length)) hm1).1 (k - cs.length)
        (by rw [List.length_append] at hk; omega) rfl
      refine ⟨m2, ?_, ?_⟩
      · rwa [List.take_append, List.take_of_length_le (by omega), List.sum_append, ← Nat.add_assoc]
      · subst hr
        simp only [h1]
        exact h2
  · rw [List.length_append] at *
    obtain ⟨m1, hm1, h1⟩ := hf2 fun k hk => by have := hr k hk; omega
    obtain ⟨m2, hm2, h2⟩ := (hg m1 (r.map fun k => k - cs.length) hm1).2 fun k hk => by
      obtain ⟨j, hj, rfl⟩ := Option.map_eq_some_iff.mp hk
      have := hr j hj
      omega
    refine ⟨m2, by rwa [List.sum_append, ← Nat.add_assoc], ?_⟩
    simp only [h1]
    refine h2.trans ?_
    rw [Option.map_map]
    congr 3
    funext k
    exact Nat.sub_sub k cs.length ds.length

/-- A store outside the protected bytes is admitted unless RES goes low now. -/
theorem admitStore_counts {s : State} {w nb : Nat} {a : Addr} (hr : s.resDuring ≠ some 0)
    (hs : ∀ j, j < nb → s.inStream w (a + BitVec.ofNat 24 j) = false) :
    s.admitStore w nb a = .ok { s with resDuring := s.resDuring.map fun k => k - 1 } := by
  have hn : ((List.range nb).any fun j => s.inStream w (a + BitVec.ofNat 24 j)) = false := by simp_all
  simp only [State.admitStore, if_neg hr, hn, Bool.false_eq_true, if_false]

theorem runsFrom_storeByte {s : State} {a : Addr} {b : Nat → Byte} {n w : Nat} (hn : n < 0x100000)
    (hl : (s.locate (a + BitVec.ofNat 24 n)).isRam = true) (hs : s.inStream w (a + BitVec.ofNat 24 n) = false) :
    RunsFrom s a b n [1] fun u => u.storeByte w (a + BitVec.ofNat 24 n) (b n) := by
  intro m r hm
  obtain ⟨c, hc⟩ := Place.isRam_iff.mp hl
  refine ⟨fun k hk hr => ⟨m, ?_, ?_⟩, fun hr => ⟨m.write c (b n), hm.succ hn hc, ?_⟩⟩
  · obtain rfl : k = 0 := by simpa using hk
    exact hm
  · obtain rfl : k = 0 := by simpa using hk
    subst hr
    simp only [State.storeByte, midway_admitStore]
    rfl
  · have hadmit := admitStore_counts (s := s.midway m r) (w := w) (nb := 1)
      (a := a + BitVec.ofNat 24 n) (fun h0 => by have := hr 0 h0; simp at this) fun j hj => by
        obtain rfl : j = 0 := by omega
        simpa using hs
    simp only [State.storeByte, hadmit]
    exact writeByte_of_ram _ ((midway_locate s m _ _).trans hc)

/-- The bytes of each bus cycle of a word access at an even address (R99). -/
def cyclesOf (s : State) (a : Addr) : List Nat := if s.singleCycle a then [2] else [1, 1]

theorem cyclesOf_sum (s : State) (a : Addr) : (cyclesOf s a).sum = 2 := by
  unfold cyclesOf
  split <;> rfl

theorem cyclesOf_length (s : State) (a : Addr) : (cyclesOf s a).length = wordCycles s a := by
  unfold cyclesOf wordCycles
  split <;> rfl

theorem CpuTo.cyclesOf {s u : State} (h : CpuTo s u) (a : Addr) : Machine.cyclesOf u a = Machine.cyclesOf s a := by
  obtain ⟨e, p, c, i, d, rfl⟩ := h
  rw [Machine.cyclesOf, singleCycle_congr (t := { s with er := e, pc := p, ccr := c, irqInhibit := i, draws := d })
    rfl rfl rfl rfl]
  rfl

/-- Before the last cycle of a word as many bytes are written as cycles have passed. -/
theorem cyclesOf_take {s : State} {a : Addr} {k : Nat} (hk : k < wordCycles s a) : ((cyclesOf s a).take k).sum = k := by
  unfold wordCycles at hk
  unfold cyclesOf
  split at hk <;> rename_i hc
  · obtain rfl : k = 0 := by omega
    rfl
  · rw [if_neg hc]
    rcases (by omega : k = 0 ∨ k = 1) with rfl | rfl <;> rfl

theorem cyclesOf_take_append {s : State} {a a' : Addr} {k : Nat} (hk : k < wordCycles s a + wordCycles s a') :
    ((cyclesOf s a ++ cyclesOf s a').take k).sum = if k < wordCycles s a then k else 2 + (k - wordCycles s a) := by
  have hlen := cyclesOf_length s a
  by_cases h : k < wordCycles s a
  · rw [if_pos h, List.take_append_of_le_length (by omega), cyclesOf_take h]
  · rw [if_neg h, List.take_append, List.take_of_length_le (by omega), List.sum_append, cyclesOf_sum, hlen,
      cyclesOf_take (by omega)]

/-- In one cycle the word is written whole or not at all; in two, byte by byte (R99). -/
theorem runsFrom_storeWord {s : State} {a : Addr} {b : Nat → Byte} {n w : Nat} {v : Word} (hn : n + 1 < 0x100000)
    (hv : v.extractLsb' 8 8 = b n) (hv' : v.extractLsb' 0 8 = b (n + 1))
    (he : evenAddr (a + BitVec.ofNat 24 n) = a + BitVec.ofNat 24 n)
    (hl : (s.locate (a + BitVec.ofNat 24 n)).isRam = true) (hl' : (s.locate (a + BitVec.ofNat 24 (n + 1))).isRam = true)
    (hs : s.inStream w (a + BitVec.ofNat 24 n) = false) (hs' : s.inStream w (a + BitVec.ofNat 24 (n + 1)) = false) :
    RunsFrom s a b n (cyclesOf s (a + BitVec.ofNat 24 n)) fun u => u.storeWord w (a + BitVec.ofNat 24 n) v := by
  have hnext : a + BitVec.ofNat 24 n + 1 = a + BitVec.ofNat 24 (n + 1) := by
    rw [BitVec.add_assoc, BitVec.ofNat_add]
    rfl
  have hcycle : ∀ m r, (s.midway m r).singleCycle (a + BitVec.ofNat 24 n) =
      s.singleCycle (a + BitVec.ofNat 24 n) := fun m r => singleCycle_congr rfl rfl rfl rfl _
  by_cases hc : s.singleCycle (a + BitVec.ofNat 24 n) = true
  · have hcs : cyclesOf s (a + BitVec.ofNat 24 n) = [2] := by rw [cyclesOf, if_pos hc]
    rw [hcs]
    intro m r hm
    obtain ⟨c, hc0⟩ := Place.isRam_iff.mp hl
    obtain ⟨d, hd0⟩ := Place.isRam_iff.mp hl'
    have hstore : (s.midway m r).storeWord w (a + BitVec.ofNat 24 n) v =
        (s.midway m r).admitStore w 2 (a + BitVec.ofNat 24 n) >>= fun u =>
          u.writeWord (a + BitVec.ofNat 24 n) v := by
      rw [State.storeWord, he, hcycle, if_pos hc]
    refine ⟨fun k hk hr => ⟨m, ?_, ?_⟩, fun hr => ⟨(m.write c (b n)).write d (b (n + 1)), ?_, ?_⟩⟩
    · obtain rfl : k = 0 := by simpa using hk
      exact hm
    · obtain rfl : k = 0 := by simpa using hk
      subst hr
      simp only [hstore, midway_admitStore]
      rfl
    · exact (hm.succ (by omega) hc0).succ hn hd0
    · have hadmit := admitStore_counts (s := s.midway m r) (w := w) (nb := 2)
        (a := a + BitVec.ofNat 24 n) (fun h0 => by have := hr 0 h0; simp at this) fun j hj => by
          rcases (by omega : j = 0 ∨ j = 1) with rfl | rfl
          · simpa using hs
          · exact (congrArg _ hnext).trans hs'
      have hnarrow : (s.midway m (r.map fun k => k - 1)).wideDevice (a + BitVec.ofNat 24 n) = false :=
        wideDevice_of (by rw [midway_locate, hc0]; rfl)
      simp only [hstore, hadmit]
      change (s.midway m (r.map fun k => k - 1)).writeWord (a + BitVec.ofNat 24 n) v = _
      rw [State.writeWord, hnarrow, if_neg Bool.false_ne_true, hv, hv', writeByte_of_ram _ ((midway_locate s m _ _).trans hc0),
        hnext]
      exact writeByte_of_ram _ ((midway_locate s _ _ _).trans hd0)
  · have hcs : cyclesOf s (a + BitVec.ofNat 24 n) = [1] ++ [1] := by rw [cyclesOf, if_neg hc]; rfl
    rw [hcs]
    have hstore : ∀ m r, (s.midway m r).storeWord w (a + BitVec.ofNat 24 n) v =
        (s.midway m r).storeByte w (a + BitVec.ofNat 24 n) (b n) >>= fun u =>
          u.storeByte w (a + BitVec.ofNat 24 (n + 1)) (b (n + 1)) := fun m r => by
      rw [State.storeWord, he, hcycle, if_neg hc, hv, hv', hnext]
    intro m r hm
    simp only [hstore]
    exact (runsFrom_storeByte (by omega) hl hs).bind (runsFrom_storeByte (n := n + 1) hn hl' hs') m r hm

theorem extract_extract (v : Long) (i j : Nat) (h : j + 8 ≤ 16 := by decide) :
    (v.extractLsb' i 16).extractLsb' j 8 = v.extractLsb' (i + j) 8 := by
  apply BitVec.eq_of_getLsbD_eq
  intro k hk
  simp only [BitVec.getLsbD_extractLsb', hk, decide_true, Bool.true_and, show j + k < 16 by omega, Nat.add_assoc]

theorem runsFrom_storeLong {s : State} {a : Addr} {w : Nat} {v : Long} (he : evenAddr a = a) (hl : RamAt s 4 a)
    (hs : ∀ j, j < 4 → s.inStream w (a + BitVec.ofNat 24 j) = false) :
    RunsFrom s a (fun j => v.extractLsb' (24 - 8 * j) 8) 0 (cyclesOf s a ++ cyclesOf s (a + 2)) fun u => u.storeLong w a v := by
  have he2 : evenAddr (a + 2) = a + 2 := by
    have := evenAddr_add_two a
    rwa [he] at this
  have h0 : a + BitVec.ofNat 24 0 = a := BitVec.add_zero a
  have hw := runsFrom_storeWord (s := s) (a := a) (b := fun j => v.extractLsb' (24 - 8 * j) 8) (n := 0) (w := w)
    (v := v.extractLsb' 16 16) (by decide) (extract_extract v _ _) (extract_extract v _ _)
    (by rwa [h0]) (hl 0 (by decide)) (hl 1 (by decide)) (hs 0 (by decide)) (hs 1 (by decide))
  have hw2 := runsFrom_storeWord (s := s) (a := a) (b := fun j => v.extractLsb' (24 - 8 * j) 8) (n := 2) (w := w)
    (v := v.extractLsb' 0 16) (by decide) (extract_extract v _ _) (extract_extract v _ _)
    he2 (hl 2 (by decide)) (hl 3 (by decide)) (hs 2 (by decide)) (hs 3 (by decide))
  rw [h0] at hw
  intro m r hm
  have hsum : 0 + (cyclesOf s a).sum = 2 := by rw [cyclesOf_sum]
  have hbind := RunsFrom.bind hw (ds := cyclesOf s (a + 2)) (by rw [hsum]; exact hw2)
  simp only [State.storeLong, he]
  exact hbind m r hm

end Sys2Proof.Machine

/-! ### MOV, PUSH and the bit instructions to memory (R150, R160 to R162, R286) -/

namespace Sys2Proof.Machine

/-! ### What a run in RAM leaves -/

theorem RunsFrom.completes {s : State} {a : Addr} {b : Nat → Byte} {cs : List Nat} {f : State → Res State}
    (h : RunsFrom s a b 0 cs f) (hm : s.mem.wf = true) (hr : s.resDuring = none) :
    ∃ m, WroteFirst s a b cs.sum m ∧ f s = .ok { s with mem := m } := by
  obtain ⟨m, hw, he⟩ := (h s.mem s.resDuring (wroteFirst_zero a b hm)).2 fun k hk => by rw [hr] at hk; cases hk
  refine ⟨m, by rwa [Nat.zero_add] at hw, ?_⟩
  rw [midway_self] at he
  rw [he]
  simp only [State.midway, hr, Option.map_none]

theorem RunsFrom.abandoned {s : State} {a : Addr} {b : Nat → Byte} {cs : List Nat} {f : State → Res State}
    (h : RunsFrom s a b 0 cs f) (hm : s.mem.wf = true) {k : Nat} (hk : k < cs.length) (hr : s.resDuring = some k) :
    ∃ m, WroteFirst s a b (cs.take k).sum m ∧ f s = .error (.abandoned (s.midway m (some 0))) := by
  obtain ⟨m, hw, he⟩ := (h s.mem s.resDuring (wroteFirst_zero a b hm)).1 k hk hr
  exact ⟨m, by rwa [Nat.zero_add] at hw, by rw [← he, midway_self]⟩

/-- An abandoned instruction keeps what it has written, but for module registers (R406). -/
theorem abandonedAfter_of {s u : State} {a : Addr} {b : Nat → Byte} {k : Nat} (hmode : u.mcuMode = s.mcuMode)
    (hplatform : u.platform = s.platform)
    (hwritten : ∀ j, j < k → ∀ c, s.locate (a + BitVec.ofNat 24 j) = .ram c → u.mem.read c = b j)
    (hothers : ∀ c, (∀ j, j < k → s.locate (a + BitVec.ofNat 24 j) ≠ .ram c) → u.mem.read c = s.mem.read c) :
    AbandonedAfter k a b s u.abandon := by
  have hread : ∀ c, s.moduleCell true c = false → u.abandon.mem.read c = u.mem.read c := fun c hc =>
    enterReset_read u (by rwa [moduleCell_congr hmode hplatform])
  exact {
    written := fun j hj c hc hmod => (hread c hmod).trans (hwritten j hj c hc)
    others := fun c hmod hc => (hread c hmod).trans (hothers c hc)
    pstate := rfl
    resLow := rfl
    maskI := by simp [State.flag, State.abandon, State.enterReset, State.setI]
    syscr := rfl
    control := ⟨rfl, rfl, rfl, rfl, rfl⟩ }

theorem RunsFrom.abandonedAfter {s u : State} {a : Addr} {b : Nat → Byte} {cs : List Nat} {f : State → Res State}
    (hs : CpuTo s u) (h : RunsFrom u a b 0 cs f) (hm : s.mem.wf = true) {k : Nat} (hk : k < cs.length)
    (hr : s.resDuring = some k) :
    ∃ u', f u = .error (.abandoned u') ∧ AbandonedAfter (cs.take k).sum a b s u'.abandon := by
  obtain ⟨m, hw, he⟩ := h.abandoned (by rwa [hs.mem]) hk (hs.resDuring.trans hr)
  have hw' := hw.of_cpu hs
  exact ⟨_, he, abandonedAfter_of hs.sameInputs.mcuMode hs.sameInputs.platform hw'.written hw'.others⟩

/-! ### Refused stores (R104) -/

theorem admitStore_refused {s : State} {w nb : Nat} {a : Addr} (hr : s.resDuring = none) {j : Nat} (hj : j < nb)
    (h : s.inStream w (a + BitVec.ofNat 24 j) = true) :
    s.admitStore w nb a = .error (.refusal .storeIntoInstructionStream) := by
  have hany : ((List.range nb).any fun j => s.inStream w (a + BitVec.ofNat 24 j)) = true :=
    List.any_eq_true.mpr ⟨j, List.mem_range.mpr hj, h⟩
  rw [State.admitStore, if_neg (by rw [hr]; nofun), if_pos hany]

theorem storeByte_refused {s : State} {w : Nat} {a : Addr} (v : Byte) (hr : s.resDuring = none)
    (h : s.inStream w a = true) : s.storeByte w a v = .error (.refusal .storeIntoInstructionStream) := by
  rw [State.storeByte, admitStore_refused hr (j := 0) Nat.one_pos (by simpa using h)]
  rfl

theorem storeWord_refused {s : State} {w : Nat} {a : Addr} (v : Word) (hr : s.resDuring = none)
    (h : s.inStream w (evenAddr a) = true) : s.storeWord w a v = .error (.refusal .storeIntoInstructionStream) := by
  rw [State.storeWord]
  split
  · rw [admitStore_refused hr (j := 0) Nat.two_pos (by simpa using h)]
    rfl
  · rw [storeByte_refused _ hr h]
    rfl

theorem storeLong_refused {s : State} {w : Nat} {a : Addr} (v : Long) (hr : s.resDuring = none)
    (h : s.inStream w (evenAddr a) = true) : s.storeLong w a v = .error (.refusal .storeIntoInstructionStream) := by
  rw [State.storeLong, storeWord_refused _ hr (by rwa [evenAddr_idem])]
  rfl

/-! ### Stores that lead nowhere -/

theorem storeByte_stops {s : State} {w : Nat} {a : Addr} {why : Stop} (v : Byte) (hr : s.resDuring = none)
    (hs : s.inStream w a = false) (hl : s.locate a = .stop why) : s.storeByte w a v = .error why := by
  rw [storeByte_of hr hs, writeByte_of_stop v hl]

/-- On-chip memory leads somewhere. -/
theorem onChip_of_stop {s : State} {a : Addr} {why : Stop} (hl : s.locate a = .stop why) : s.onChip a = false := by
  rw [Bool.eq_false_iff]
  intro h
  simp only [State.onChip, Bool.or_eq_true, Bool.and_eq_true, decide_eq_true_eq] at h
  rcases h with ⟨hrom, hp⟩ | ⟨⟨h1, h2⟩, hen⟩
  · rw [locate_rom hrom hp] at hl
    cases hl
  · rw [locate_onChipRam h1 h2] at hl
    rcases hen with hen | hen
    · rw [if_pos hen] at hl
      cases hl
    · rw [if_pos hen] at hl
      split at hl <;> cases hl

theorem storeWord_stops {s : State} {w : Nat} {a : Addr} {why : Stop} (v : Word) (hr : s.resDuring = none)
    (hs : s.inStream w (evenAddr a) = false) (hl : s.locate (evenAddr a) = .stop why) :
    s.storeWord w a v = .error why := by
  have hcycle : s.singleCycle (evenAddr a) = false := by
    rw [State.singleCycle, wideDevice_of (by rw [hl]; rfl), onChip_of_stop hl, Bool.or_false]
  rw [State.storeWord, hcycle, if_neg Bool.false_ne_true, storeByte_stops _ hr hs hl]
  rfl

theorem storeLong_stops {s : State} {w : Nat} {a : Addr} {why : Stop} (v : Long) (hr : s.resDuring = none)
    (hs : s.inStream w (evenAddr a) = false) (hl : s.locate (evenAddr a) = .stop why) :
    s.storeLong w a v = .error why := by
  rw [State.storeLong, storeWord_stops _ hr (by rwa [evenAddr_idem]) (by rwa [evenAddr_idem])]
  rfl

/-! ### Before the store and after it -/

/-- The mode does not increment its register: the modes of a store. -/
def Mode.ofStore (m : Mode) : Prop := ∀ n, m ≠ .postInc n

theorem regsAfterMode_preDecrement {m : Mode} (hm : m.ofStore) (nb : Nat) (s : State) (n : RegNum) :
    RegsAfterMode m nb s (s.preDecrement nb m) n := by
  cases m with
  | postInc k => exact absurd rfl (hm k)
  | preDec k =>
    by_cases h : n = k
    · subst h
      simp [RegsAfterMode, State.preDecrement]
    · simp [RegsAfterMode, State.preDecrement, reg32_setReg32_other _ _ h, Ne.symm h]
  | ind k | disp16 d k | disp24 d k | abs8 a | abs16 a | abs24 a => simp [RegsAfterMode, State.preDecrement]

theorem preDecrement_pc (s : State) (nb : Nat) (m : Mode) : (s.preDecrement nb m).pc = s.pc := by
  obtain ⟨e, h⟩ := preDecrement_eq s nb m
  rw [h]

theorem preDecrement_inStream (s : State) (nb : Nat) (m : Mode) (w : Nat) (a : Addr) :
    (s.preDecrement nb m).inStream w a = s.inStream w a :=
  inStream_congr (cpuTo_preDecrement s nb m).mcuMode (preDecrement_pc s nb m) w a

theorem Storable.preDecrement {s : State} {w k : Nat} {a : Addr} (h : Storable s w k a) (nb : Nat) (m : Mode) :
    Storable (s.preDecrement nb m) w k a :=
  h.congr (cpuTo_preDecrement s nb m).sameInputs (preDecrement_pc s nb m)

theorem RamAt.of_cpu {s u : State} {nb : Nat} {a : Addr} (hs : CpuTo s u) (h : RamAt s nb a) : RamAt u nb a :=
  fun j hj => by rw [hs.locate]; exact h j hj

theorem cpuTo_advance (s : State) (c : Byte) (len : Nat) : CpuTo s ((s.setCcr c).advance len) :=
  ⟨s.er, (s.advance len).pc, c, s.irqInhibit, s.draws, rfl⟩

/-- After the store only flags and PC change: what of the state of the instruction is then as it should be. -/
theorem stored_frame {m : Mode} (hm : m.ofStore) {nb len : Nat} {s s1 : State} (h : WritesTo (s.preDecrement nb m) s1)
    (c : Byte) :
    (∀ n, RegsAfterMode m nb s ((s1.setCcr c).advance len) n) ∧ PcAfter len s ((s1.setCcr c).advance len) ∧
      SameInputs s ((s1.setCcr c).advance len) ∧ SameProcessing s ((s1.setCcr c).advance len) ∧
      ((s1.setCcr c).advance len).irqInhibit = s.irqInhibit := by
  have hcpu := cpuTo_preDecrement s nb m
  have hend := cpuTo_advance s1 c len
  have hpc : s1.pc = s.pc := h.pc.trans (preDecrement_pc s nb m)
  refine ⟨fun n => (regsAfterMode_congr (h.reg32 n)).mpr (regsAfterMode_preDecrement hm nb s n), ?_,
    (hcpu.sameInputs.trans h.sameInputs).trans hend.sameInputs,
    (hcpu.sameProcessing.trans h.sameProcessing).trans hend.sameProcessing, h.irqInhibit.trans ?_⟩
  · rw [PcAfter, ← hpc]
    rfl
  · obtain ⟨e, h⟩ := preDecrement_eq s nb m
    rw [h]

/-! ### MOV to memory -/

theorem storeB_eq {m : Mode} {rs : Reg8} (len : Nat) (s : State) (hrs : m.modifies ≠ some rs.num) :
    storeB rs m len s = finish ((s.preDecrement 1 m).storeByte (len + 4) (s.ea 1 m) (s.reg8 rs) >>= fun s1 =>
      return (s1.setCcr (flagsNZ0 (s.reg8 rs) s.ccr)).advance len) := by
  rw [storeB, check_of hrs]
  rfl

theorem storesB_of {i : Instr} {len : Nat} {m : Mode} {rs : Reg8} {s : State} (he : exec i s = storeB rs m len s)
    (hm : m.ofStore) : StoresB i len m rs s := by
  intro hrs
  have hcpu := cpuTo_preDecrement s 1 m
  have hstore := he.trans (storeB_eq len s hrs)
  refine ⟨fun hr => ⟨fun h => ?_, fun h why hl => ?_, fun hwf hst => ?_⟩, fun k hk hk1 hwf hram hst => ?_⟩
  · rw [hstore, storeByte_refused _ (hcpu.resDuring.trans hr) (by rwa [preDecrement_inStream])]
    rfl
  · rw [hstore, storeByte_stops _ (hcpu.resDuring.trans hr) (by rwa [preDecrement_inStream]) ((hcpu.locate _).trans hl)]
    rfl
  · have hr' := hcpu.resDuring.trans hr
    obtain ⟨s1, h1⟩ := storeByte_completes (s.reg8 rs) hr' (hst.preDecrement 1 m)
    obtain ⟨hregs, hpc, hin, hpr, hinh⟩ := stored_frame hm (len := len) (writesTo_of_storeByte hr' h1)
      (flagsNZ0 (s.reg8 rs) s.ccr)
    have hstored := (storedByte_of_storeByte hr' (by rwa [hcpu.mem]) h1).of_cpu hcpu
      (cpuTo_advance s1 (flagsNZ0 (s.reg8 rs) s.ccr) len)
    exact ⟨_, by rw [hstore, h1]; rfl, hstored, hregs, ccrIs_flagsNZ0 _ s.ccr, hpc, hin, hpr, hinh⟩
  · have hrun : RunsFrom (s.preDecrement 1 m) (s.ea 1 m) (fun j => (s.reg8 rs).extractLsb' (0 - 8 * j) 8) 0 [1] fun u =>
        u.storeByte (len + 4) (s.ea 1 m) (s.reg8 rs) := by
      have h0 : s.ea 1 m + BitVec.ofNat 24 0 = s.ea 1 m := BitVec.add_zero _
      have hbyte : (s.reg8 rs).extractLsb' 0 8 = s.reg8 rs := BitVec.extractLsb'_eq_self
      have hrun := runsFrom_storeByte (s := s.preDecrement 1 m) (a := s.ea 1 m)
        (b := fun j => (s.reg8 rs).extractLsb' (0 - 8 * j) 8) (n := 0) (w := len + 4) (by decide)
        (hram.of_cpu hcpu 0 hk1.pos) ((hst.preDecrement 1 m) 0 Nat.one_pos).1
      simpa only [h0, hbyte] using hrun
    obtain ⟨u, hu, hab⟩ := hrun.abandonedAfter hcpu hwf hk1 hk
    refine ⟨_, by rw [hstore, hu]; rfl, ?_⟩
    obtain rfl : k = 0 := by omega
    exact hab

theorem storeW_eq {m : Mode} {rs : Reg16} (len : Nat) (s : State) (hrs : m.modifies ≠ some rs.num) :
    storeW rs m len s = finish ((s.preDecrement 2 m).storeWord (len + 4) (s.ea 2 m) (s.reg16 rs) >>= fun s1 =>
      return (s1.setCcr (flagsNZ0 (s.reg16 rs) s.ccr)).advance len) := by
  rw [storeW, check_of hrs]
  rfl

theorem storesW_of {i : Instr} {len : Nat} {m : Mode} {rs : Reg16} {s : State} (he : exec i s = storeW rs m len s)
    (hm : m.ofStore) : StoresW i len m rs s := by
  intro hrs
  have hcpu := cpuTo_preDecrement s 2 m
  have hstore := he.trans (storeW_eq len s hrs)
  refine ⟨fun hr => ⟨fun h => ?_, fun h why hl => ?_, fun hwf hst => ?_⟩, fun k hk hk1 hwf hram hst => ?_⟩
  · rw [hstore, storeWord_refused _ (hcpu.resDuring.trans hr) (by rwa [preDecrement_inStream])]
    rfl
  · rw [hstore, storeWord_stops _ (hcpu.resDuring.trans hr) (by rwa [preDecrement_inStream]) ((hcpu.locate _).trans hl)]
    rfl
  · have hr' := hcpu.resDuring.trans hr
    obtain ⟨s1, h1⟩ := storeWord_completes (s.reg16 rs) hr' (hst.preDecrement 2 m)
    obtain ⟨hregs, hpc, hin, hpr, hinh⟩ := stored_frame hm (len := len) (writesTo_of_storeWord hr' h1)
      (flagsNZ0 (s.reg16 rs) s.ccr)
    have hstored := (storedWord_of_storeWord hr' (by rwa [hcpu.mem]) h1).of_cpu hcpu
      (cpuTo_advance s1 (flagsNZ0 (s.reg16 rs) s.ccr) len)
    exact ⟨_, by rw [hstore, h1]; rfl, hstored, hregs, ccrIs_flagsNZ0 _ s.ccr, hpc, hin, hpr, hinh⟩
  · have hcycles : cyclesOf (s.preDecrement 2 m) (evenAddr (s.ea 2 m)) = cyclesOf s (evenAddr (s.ea 2 m)) :=
      hcpu.cyclesOf _
    have hrun : RunsFrom (s.preDecrement 2 m) (evenAddr (s.ea 2 m)) (fun j => (s.reg16 rs).extractLsb' (8 - 8 * j) 8) 0
        (cyclesOf s (evenAddr (s.ea 2 m))) fun u => u.storeWord (len + 4) (s.ea 2 m) (s.reg16 rs) := by
      have h0 : evenAddr (s.ea 2 m) + BitVec.ofNat 24 0 = evenAddr (s.ea 2 m) := BitVec.add_zero _
      have hrun := runsFrom_storeWord (s := s.preDecrement 2 m) (a := evenAddr (s.ea 2 m)) (v := s.reg16 rs)
        (b := fun j => (s.reg16 rs).extractLsb' (8 - 8 * j) 8) (n := 0) (w := len + 4) (by decide) rfl rfl
        (by rw [h0, evenAddr_idem]) (hram.of_cpu hcpu 0 (by decide)) (hram.of_cpu hcpu 1 (by decide))
        ((hst.preDecrement 2 m) 0 (by decide)).1 ((hst.preDecrement 2 m) 1 (by decide)).1
      simpa only [h0, hcycles, ← storeWord_evenAddr] using hrun
    obtain ⟨u, hu, hab⟩ := hrun.abandonedAfter hcpu hwf (by rwa [cyclesOf_length]) hk
    refine ⟨_, by rw [hstore, hu]; rfl, ?_⟩
    rwa [cyclesOf_take hk1] at hab

theorem storeL_eq {m : Mode} {rs : RegNum} (len : Nat) (s : State) (hrs : m.modifies ≠ some rs) :
    storeL rs m len s = finish ((s.preDecrement 4 m).storeLong (len + 4) (s.ea 4 m) (s.reg32 rs) >>= fun s1 =>
      return (s1.setCcr (flagsNZ0 (s.reg32 rs) s.ccr)).advance len) := by
  rw [storeL, check_of hrs]
  rfl

theorem storesL_of {i : Instr} {len : Nat} {m : Mode} {rs : RegNum} {s : State} (he : exec i s = storeL rs m len s)
    (hm : m.ofStore) : StoresL i len m rs s := by
  intro hrs
  have hcpu := cpuTo_preDecrement s 4 m
  have hstore := he.trans (storeL_eq len s hrs)
  refine ⟨fun hr => ⟨fun h => ?_, fun h why hl => ?_, fun hwf hst => ?_⟩, fun k hk => ?_⟩
  · rw [hstore, storeLong_refused _ (hcpu.resDuring.trans hr) (by rwa [preDecrement_inStream])]
    rfl
  · rw [hstore, storeLong_stops _ (hcpu.resDuring.trans hr) (by rwa [preDecrement_inStream]) ((hcpu.locate _).trans hl)]
    rfl
  · have hr' := hcpu.resDuring.trans hr
    obtain ⟨s1, h1⟩ := storeLong_completes (s.reg32 rs) hr' (hst.preDecrement 4 m)
    obtain ⟨hregs, hpc, hin, hpr, hinh⟩ := stored_frame hm (len := len) (writesTo_of_storeLong hr' h1)
      (flagsNZ0 (s.reg32 rs) s.ccr)
    have hstored := (storedLong_of_storeLong hr' (by rwa [hcpu.mem]) h1).of_cpu hcpu
      (cpuTo_advance s1 (flagsNZ0 (s.reg32 rs) s.ccr) len)
    exact ⟨_, by rw [hstore, h1]; rfl, hstored, hregs, ccrIs_flagsNZ0 _ s.ccr, hpc, hin, hpr, hinh⟩
  · intro first hk1 hwf hram hst
    have hrun := runsFrom_storeLong (s := s.preDecrement 4 m) (a := evenAddr (s.ea 4 m)) (v := s.reg32 rs) (w := len + 4)
      (evenAddr_idem _) (hram.of_cpu hcpu) fun j hj => ((hst.preDecrement 4 m) j hj).1
    simp only [hcpu.cyclesOf, ← storeLong_evenAddr] at hrun
    obtain ⟨u, hu, hab⟩ := hrun.abandonedAfter hcpu hwf
      (by rwa [List.length_append, cyclesOf_length, cyclesOf_length]) hk
    refine ⟨_, by rw [hstore, hu]; rfl, ?_⟩
    rwa [cyclesOf_take_append hk1] at hab

/-- Settles O21: every form is `storeB` with its mode. -/
theorem storeByte : Obligations.StoreByte := by
  intro s n d e b rs
  exact ⟨storesB_of rfl nofun, storesB_of rfl nofun, storesB_of rfl nofun, storesB_of rfl nofun, storesB_of rfl nofun,
    storesB_of rfl nofun, storesB_of rfl nofun⟩

/-- Settles O22: every form is `storeW` with its mode. -/
theorem storeWord : Obligations.StoreWord := by
  intro s n d e rs
  exact ⟨storesW_of rfl nofun, storesW_of rfl nofun, storesW_of rfl nofun, storesW_of rfl nofun, storesW_of rfl nofun,
    storesW_of rfl nofun, storesW_of rfl nofun⟩

/-- Settles O23: every form is `storeL` with its mode. -/
theorem storeLong : Obligations.StoreLong := by
  intro s n d e rs
  exact ⟨storesL_of rfl nofun, storesL_of rfl nofun, storesL_of rfl nofun, storesL_of rfl nofun, storesL_of rfl nofun,
    storesL_of rfl nofun, storesL_of rfl nofun⟩

end Sys2Proof.Machine

/-! ### Bit instructions on memory, STC, and the accesses themselves (R75 to R78, R98 to R100, R286, R326, R327) -/

namespace Sys2Proof.Machine

/-! ### What reads leave alone -/

theorem ReadsTo.locate {s t : State} (h : ReadsTo s t) (a : Addr) : t.locate a = s.locate a := by
  obtain ⟨r, d, c, k, rfl⟩ := h
  exact locate_congr rfl rfl rfl rfl a

theorem ReadsTo.mem {s t : State} (h : ReadsTo s t) : t.mem = s.mem := by
  obtain ⟨r, d, c, k, rfl⟩ := h
  rfl

theorem ReadsTo.sameInputs {s t : State} (h : ReadsTo s t) : SameInputs s t := by
  obtain ⟨r, d, c, k, rfl⟩ := h
  exact ⟨rfl, rfl, rfl, rfl, rfl, rfl, rfl, rfl, rfl⟩

theorem ReadsTo.sameProcessing {s t : State} (h : ReadsTo s t) : SameProcessing s t := by
  obtain ⟨r, d, c, k, rfl⟩ := h
  exact ⟨rfl, rfl, rfl, rfl⟩

theorem ReadsTo.inStream {s t : State} (h : ReadsTo s t) (w : Nat) (a : Addr) : t.inStream w a = s.inStream w a :=
  inStream_congr h.sameInputs.mcuMode h.pc w a

/-- A byte can be peeked where its address leads somewhere, and there only. -/
theorem peekByte_leads {s : State} {a : Addr} : (∃ v, s.peekByte a = .ok v) ↔ ∀ why, s.locate a ≠ .stop why := by
  unfold State.peekByte
  cases s.locate a <;> simp

/-! ### BSET, BCLR, BNOT, BST, BIST in memory -/

theorem storeByte_abandoned {s : State} {w : Nat} {a : Addr} (v : Byte) (h : s.resDuring = some 0) :
    s.storeByte w a v = .error (.abandoned s) := by
  rw [State.storeByte, admitStore_abandoned.mpr ⟨h, rfl⟩]
  rfl

theorem writesBit_of {f x : Bool → Bool} {b : BitVec 3} {o : BitOperand} {i : Instr} {s : State} {a : Addr} {k : Nat}
    (he : exec i s = modifyBit f b o s) (ho : s.readBitOperand o = s.readByte a)
    (hw : ∀ u v, ReadsTo s u → u.writeBitOperand v o = u.storeByte 8 a v) (hl : o.len = 4) (hk : b.toNat = k)
    (hx : ∀ y, f y = x y) : WritesBit i a k x s := by
  subst hk
  refine ⟨fun why h => by rw [he, modifyBit, ho, h]; rfl, fun v s1 h => ?_⟩
  have hread := readsTo_of_readByte h
  have hmodify : exec i s = finish (s1.storeByte 8 a (putBit v b (f (bitOfByte v b))) >>= fun s2 =>
      return s2.advance 4) := by
    rw [he, modifyBit, ho, h, ← hl, ← hw s1 _ hread]
    rfl
  refine ⟨fun hr hs => ?_, fun hr hm hs => ?_, fun hr => ?_⟩
  · rw [hmodify, storeByte_refused _ (hread.sameInputs.resDuring.trans hr) (by rwa [hread.inStream])]
    rfl
  · have hr1 := hread.sameInputs.resDuring.trans hr
    obtain ⟨hpeek, -⟩ := readByte_ok h
    have hst : Storable s1 8 1 a := fun j hj => by
      obtain rfl : j = 0 := by omega
      rw [BitVec.add_zero, hread.inStream, hread.locate]
      exact ⟨hs, peekByte_leads.mp ⟨v, hpeek⟩⟩
    obtain ⟨s2, h2⟩ := storeByte_completes (putBit v b (f (bitOfByte v b))) hr1 hst
    have hwrites := writesTo_of_storeByte hr1 h2
    have hstored := storedByte_of_storeByte hr1 (by rwa [hread.mem]) h2
    have hend : CpuTo s2 (s2.advance 4) := cpuTo_advance s2 s2.ccr 4
    refine ⟨s2.advance 4, putBit v b (f (bitOfByte v b)), by rw [hmodify, h2]; rfl, fun j hj => ?_,
      hstored.of_cpu (.refl s1) hend, fun n => (hwrites.reg32 n).trans (hread.reg32 n),
      hwrites.ccr.trans hread.ccr, ?_, (hread.sameInputs.trans hwrites.sameInputs).trans hend.sameInputs,
      (hread.sameProcessing.trans hwrites.sameProcessing).trans hend.sameProcessing, hwrites.irqInhibit.trans hread.irqInhibit⟩
    · rw [getLsbD_putBit v b _ hj]
      refine if_ctx_congr Iff.rfl (fun hjk => ?_) fun _ => rfl
      rw [hx, hjk]
      rfl
    · rw [PcAfter, ← hread.pc, ← hwrites.pc]
      rfl
  · rw [hmodify, storeByte_abandoned _ (hread.sameInputs.resDuring.trans hr)]
    exact ⟨_, rfl, abandonedAfter_of hread.sameInputs.mcuMode hread.sameInputs.platform (fun j hj => by omega)
      fun c _ => congrArg (Memory.read · c) hread.mem⟩

theorem writesBit_of_ind {f x : Bool → Bool} {b : BitVec 3} {i : Instr} {s : State} {n : RegNum} {k : Nat}
    (he : exec i s = modifyBit f b (.ind n) s) (hk : b.toNat = k) (hx : ∀ y, f y = x y) :
    WritesBit i (ea24 (s.reg32 n)) k x s :=
  writesBit_of he rfl (fun u v h => congrArg (fun l => u.storeByte 8 (ea24 l) v) (h.reg32 n)) rfl hk hx

theorem writesBit_of_abs8 {f x : Bool → Bool} {b : BitVec 3} {i : Instr} {s : State} {aa : BitVec 8} {k : Nat}
    (he : exec i s = modifyBit f b (.abs8 aa) s) (hk : b.toNat = k) (hx : ∀ y, f y = x y) :
    WritesBit i (0xFFFF#16 ++ aa) k x s :=
  writesBit_of he rfl (fun _ _ _ => rfl) rfl hk hx

/-- Settles O39: each form reads a byte, puts one bit into it and stores it back. -/
theorem writeBitOfMemory : Obligations.WriteBitOfMemory := by
  intro s b rn n aa a c k
  have hk : (s.bitNumber rn).toNat = k := bitNumber_toNat s rn
  exact ⟨writesBit_of_ind (f := fun _ => true) rfl rfl fun _ => rfl,
    writesBit_of_ind (f := fun _ => true) rfl hk fun _ => rfl,
    writesBit_of_abs8 (f := fun _ => true) rfl rfl fun _ => rfl,
    writesBit_of_abs8 (f := fun _ => true) rfl hk fun _ => rfl,
    writesBit_of_ind (f := fun _ => false) rfl rfl fun _ => rfl,
    writesBit_of_ind (f := fun _ => false) rfl hk fun _ => rfl,
    writesBit_of_abs8 (f := fun _ => false) rfl rfl fun _ => rfl,
    writesBit_of_abs8 (f := fun _ => false) rfl hk fun _ => rfl,
    writesBit_of_ind (f := fun x => !x) rfl rfl fun _ => rfl,
    writesBit_of_ind (f := fun x => !x) rfl hk fun _ => rfl,
    writesBit_of_abs8 (f := fun x => !x) rfl rfl fun _ => rfl,
    writesBit_of_abs8 (f := fun x => !x) rfl hk fun _ => rfl,
    writesBit_of_ind (f := fun _ => s.flag .C) rfl rfl fun _ => rfl,
    writesBit_of_abs8 (f := fun _ => s.flag .C) rfl rfl fun _ => rfl,
    writesBit_of_ind (f := fun _ => !s.flag .C) rfl rfl fun _ => rfl,
    writesBit_of_abs8 (f := fun _ => !s.flag .C) rfl rfl fun _ => rfl⟩

/-! ### STC -/

theorem storesCcr_of {i : Instr} {len : Nat} {m : Mode} {s : State} (he : exec i s = storeCcr m len s) (hm : m.ofStore)
    (hr : s.resDuring = none) (hwf : s.mem.wf = true) (hst : Storable s (len + 4) 2 (evenAddr (s.ea 2 m))) :
    ∃ (t : State) (x : Byte), exec i s = .next t ∧ StoredWord (s.ea 2 m) (s.ccr ++ x) s t ∧
      (∀ k, RegsAfterMode m 2 s t k) ∧ t.ccr = s.ccr ∧ PcAfter len s t ∧ SameInputs s t ∧ SameProcessing s t ∧
      t.irqInhibit = s.irqInhibit := by
  have hdrawn : CpuTo s (s.drawn 1) := ⟨s.er, s.pc, s.ccr, s.irqInhibit, s.draws + 1, rfl⟩
  have hcpu : CpuTo s ((s.drawn 1).preDecrement 2 m) := hdrawn.trans (cpuTo_preDecrement _ 2 m)
  have hr' := hcpu.resDuring.trans hr
  obtain ⟨s1, h1⟩ := storeWord_completes (s.ccr ++ s.freeByte) hr' (hst.congr hcpu.sameInputs (preDecrement_pc (s.drawn 1) 2 m))
  have hwrites := writesTo_of_storeWord hr' h1
  have hccr : s1.ccr = s.ccr := by
    obtain ⟨e, hpre⟩ := preDecrement_eq (s.drawn 1) 2 m
    rw [hwrites.ccr, hpre]
    rfl
  obtain ⟨hregs, hpc, hin, hpr, hinh⟩ := stored_frame hm (len := len) hwrites s1.ccr
  have hstored := (storedWord_of_storeWord hr' (by rwa [hcpu.mem]) h1).of_cpu hcpu (cpuTo_advance s1 s1.ccr len)
  have hnext : exec i s = .next ((s1.setCcr s1.ccr).advance len) := by
    have hstore : exec i s = finish (((s.drawn 1).preDecrement 2 m).storeWord (len + 4) (s.ea 2 m) (s.ccr ++ s.freeByte) >>=
        fun s1 => return s1.advance len) := he
    rw [hstore, h1]
    rfl
  exact ⟨_, s.freeByte, hnext, hstored, hregs, hccr, hpc, hdrawn.sameInputs.trans hin, hdrawn.sameProcessing.trans hpr, hinh⟩

/-! ### Byte, word and longword accesses -/

theorem readReg_congr {s t : State} (hmode : t.mcuMode = s.mcuMode) (h : SameControl s t) (r : IoReg) :
    t.readReg r = s.readReg r := by
  cases r <;> simp only [State.readReg, hmode, h.syscr, h.iscr, h.ier, h.isr, h.ipra, h.iprb]

/-- Two states that agree on a cell and the control registers agree on the byte there, if it is no device's. -/
theorem peekByte_congr {s t : State} {a : Addr} (hl : t.locate a = s.locate a) (hd : (s.locate a).isDevice = false)
    (hreg : ∀ r, t.readReg r = s.readReg r)
    (hcell : ∀ k, (s.locate a).cell = some k → t.mem.read k = s.mem.read k) : t.peekByte a = s.peekByte a := by
  unfold State.peekByte
  rw [hl]
  cases hp : s.locate a with
  | ram k | rom k => exact congrArg Except.ok (hcell k (by rw [hp]; rfl))
  | writeOnly k | disabledRam | stop why => rfl
  | device w => rw [hp] at hd; cases hd
  | reg r => exact congrArg Except.ok (hreg r)

/-- After a run in RAM every byte outside it is as before. -/
theorem sameOutside_of_wrote {s t : State} {a : Addr} {b : Nat → Byte} {nb : Nat} (h : WroteFirst s a b nb t.mem)
    (hin : SameInputs s t) (hcontrol : SameControl s t) : SameOutside s t a nb := by
  intro x hd hx
  have hl : t.locate x = s.locate x :=
    locate_congr hin.mcuMode hin.product hin.platform (by simp only [State.ramEnabled, hcontrol.syscr]) x
  refine peekByte_congr hl hd (readReg_congr hin.mcuMode hcontrol) fun k hk => h.others k fun j hj e => ?_
  exact cell_ne_of_phys_ne hk (by rw [e]; rfl) (hx j hj) rfl

/-- After a longword has been written to RAM the bytes there hold it. -/
theorem holdsLong_of_wrote {s t : State} {a : Addr} {v : Long}
    (h : WroteFirst s a (fun j => v.extractLsb' (24 - 8 * j) 8) 4 t.mem) (hram : RamAt s 4 a)
    (hl : ∀ x, t.locate x = s.locate x) : HoldsLong t a v := by
  intro j hj
  obtain ⟨c, hc⟩ := Place.isRam_iff.mp (hram j hj)
  rw [hl, hc, peekByte_of_ram ((hl _).trans hc), h.written j hj c hc]
  exact ⟨rfl, rfl⟩

theorem readByte_of_memoryAccess {s : State} {a : Addr} {v : Byte} (hv : s.peekByte a = .ok v)
    (hd : (s.locate a).isDevice = false) (hi : s.locate a ≠ .reg .isr) : s.readByte a = .ok (v, s) := by
  have hnote : s.noteRead a = s := by
    unfold State.noteRead
    cases hl : s.locate a with
    | ram k | rom k | writeOnly k | disabledRam | stop why => rfl
    | device w => rw [hl] at hd; cases hd
    | reg r =>
      cases r with
      | isr => exact absurd hl hi
      | mdcr | syscr | iscr | ier | ipra | iprb => rfl
  rw [readByte_of_peek hv, hnote]

theorem deviceAnswer_of {s : State} {v : Word} {rest : List Word} (h : s.deviceAnswers = v :: rest) :
    s.deviceAnswer = v := by
  rw [State.deviceAnswer, h]

/-- Settles O10: a run of one or four bytes in RAM, and one call for each access to a device. -/
theorem memoryAccess : Obligations.MemoryAccess := by
  refine ⟨fun s a v hm hl => ?_, fun s a v => readByte_of_memoryAccess, fun s a v => readLong_of_holds,
    fun s a v hr hm hram => ?_, fun s a wide v rest hl hd => ?_, fun s a wide v hl => ?_, fun s a v w rest hw hd => ⟨?_, fun hr => ?_⟩⟩
  · obtain ⟨k, hk⟩ := Place.isRam_iff.mp hl
    have h0 : a + BitVec.ofNat 24 0 = a := BitVec.add_zero a
    have hrun : WroteFirst s a (fun _ => v) 1 (s.mem.write k v) :=
      (wroteFirst_zero a (fun _ => v) hm).succ (by decide) (by rwa [h0])
    refine ⟨_, writeByte_of_ram v hk, ?_, sameOutside_of_wrote hrun ⟨rfl, rfl, rfl, rfl, rfl, rfl, rfl, rfl, rfl⟩
      ⟨rfl, rfl, rfl, rfl, rfl, rfl, rfl⟩, ⟨rfl, rfl, rfl, rfl, rfl, rfl, rfl⟩, ⟨rfl, rfl⟩⟩
    rw [peekByte_of_ram ((locate_with_mem s _ a).trans hk), Memory.read_write k k v hm, if_pos rfl]
  · have hrun := runsFrom_storeLong (s := s) (a := evenAddr a) (w := 0) (v := v) (evenAddr_idem a) hram
      fun j _ => inStream_zero s _
    obtain ⟨m, hw, he⟩ := hrun.completes hm hr
    rw [List.sum_append, cyclesOf_sum, cyclesOf_sum] at hw
    exact ⟨_, by rw [storeLong_evenAddr]; exact he, holdsLong_of_wrote hw hram fun x => locate_with_mem s m x,
      sameOutside_of_wrote hw ⟨rfl, rfl, rfl, rfl, rfl, rfl, rfl, rfl, rfl⟩ ⟨rfl, rfl, rfl, rfl, rfl, rfl, rfl⟩,
      ⟨rfl, rfl, rfl, rfl, rfl, rfl, rfl⟩, ⟨rfl, rfl⟩⟩
  · have hnote : s.noteRead a = s.callRead a 1 ((v.extractLsb' 0 8).zeroExtend 16) := by
      rw [State.noteRead, hl, ← deviceAnswer_of hd]
    have hpeek : s.peekByte a = .ok (v.extractLsb' 0 8) := by rw [State.peekByte, hl, ← deviceAnswer_of hd]
    have hread := readByte_of_peek hpeek
    rw [hnote] at hread
    exact ⟨_, hread, congrArg List.tail hd, rfl, fun _ => rfl,
      ⟨rfl, rfl, rfl, rfl, rfl, rfl, rfl⟩⟩
  · exact ⟨s.callWrite a 1 (v.zeroExtend 16), by simp only [State.writeByte, hl], fun _ => rfl, ⟨rfl, rfl, rfl, rfl, rfl, rfl, rfl⟩, rfl, rfl⟩
  · have hread : s.readWord a = .ok (v, s.callRead (evenAddr a) 2 v) := by
      rw [State.readWord, if_pos hw, deviceAnswer_of hd]
    exact ⟨_, hread, congrArg List.tail hd, rfl, fun _ => rfl, ⟨rfl, rfl, rfl, rfl, rfl, rfl, rfl⟩⟩
  · have hstore : s.storeWord 0 a w = .ok (s.callWrite (evenAddr a) 2 w) := by
      have hcycle : s.singleCycle (evenAddr a) = true := by rw [State.singleCycle, hw, Bool.true_or]
      rw [State.storeWord, if_pos hcycle, admitStore_of hr fun _ _ => inStream_zero s _]
      change s.writeWord (evenAddr a) w = _
      rw [State.writeWord, if_pos hw]
    exact ⟨_, hstore, fun _ => rfl, ⟨rfl, rfl, rfl, rfl, rfl, rfl, rfl⟩, rfl, rfl⟩

end Sys2Proof.Machine

namespace Sys2Proof

open Machine in
/-- Settles O48: STC to memory is a word store of CCR above a free byte. -/
theorem storeCcr : Obligations.StoreCcr := by
  intro s n d e q
  refine ⟨resultB_of_modifyB (f := fun _ ccr => (ccr, ccr)) (k := 0) rfl rfl (ccrIs_self _), ?_⟩
  rintro i len m (⟨rfl, rfl, rfl⟩ | ⟨rfl, rfl, rfl⟩ | ⟨rfl, rfl, rfl⟩ | ⟨rfl, rfl, rfl⟩ | ⟨rfl, rfl, rfl⟩ |
    ⟨rfl, rfl, rfl⟩) hr hwf hst
  · exact storesCcr_of rfl nofun hr hwf hst
  · exact storesCcr_of rfl nofun hr hwf hst
  · exact storesCcr_of rfl nofun hr hwf hst
  · exact storesCcr_of rfl nofun hr hwf hst
  · exact storesCcr_of rfl nofun hr hwf hst
  · exact storesCcr_of rfl nofun hr hwf hst

end Sys2Proof

/-! ### The stack: calls, exceptions, and the returns that undo them (R306 to R312, R320, R386, R389) -/

namespace Sys2Proof.Machine

/-! ### Pushes -/

theorem evenAddr_frameAddr (s : State) : evenAddr (frameAddr s) = frameAddr s := evenAddr_idem _

/-- A push is a longword store at the frame. -/
theorem pushLong_eq (s : State) (w : Nat) (v : Long) :
    s.pushLong w v = (s.setReg32 sp (s.reg32 sp - 4)).storeLong w (frameAddr s) v := by
  have hpush : s.pushLong w v = (s.setReg32 sp (s.reg32 sp - 4)).storeLong w
      (ea24 ((s.setReg32 sp (s.reg32 sp - 4)).reg32 sp)) v := rfl
  rw [hpush, reg32_setReg32_same, storeLong_evenAddr]
  rfl

theorem cpuTo_setReg32 (s : State) (n : RegNum) (v : Long) : CpuTo s (s.setReg32 n v) :=
  ⟨s.er.set n.val v, s.pc, s.ccr, s.irqInhibit, s.draws, rfl⟩

theorem pushLong_completes {s : State} {w : Nat} (v : Long) (hr : s.resDuring = none) (hwf : s.mem.wf = true)
    (hst : Storable s w 4 (frameAddr s)) :
    ∃ t, s.pushLong w v = .ok t ∧ WritesTo (s.setReg32 sp (s.reg32 sp - 4)) t ∧ StoredLong (frameAddr s) v s t := by
  have hcpu := cpuTo_setReg32 s sp (s.reg32 sp - 4)
  obtain ⟨t, ht⟩ := storeLong_completes (s := s.setReg32 sp (s.reg32 sp - 4)) (a := frameAddr s) (w := w) v hr
    (by rw [evenAddr_frameAddr]; exact hst.congr hcpu.sameInputs rfl)
  exact ⟨t, (pushLong_eq s w v).trans ht, writesTo_of_storeLong hr ht,
    (storedLong_of_storeLong (s := s.setReg32 sp (s.reg32 sp - 4)) hr hwf ht).of_cpu hcpu (.refl t)⟩

/-- `s` after a push that has left the cells `m`. -/
def State.pushed (s : State) (m : Memory) : State := ({ s with mem := m } : State).setReg32 sp (s.reg32 sp - 4)

/-- On a stack in RAM a push writes the four bytes of the frame and nothing else. -/
theorem pushLong_of_ram {s : State} {w : Nat} (v : Long) (hr : s.resDuring = none) (hwf : s.mem.wf = true)
    (hram : RamAt s 4 (frameAddr s)) (hs : ∀ j, j < 4 → s.inStream w (frameAddr s + BitVec.ofNat 24 j) = false) :
    ∃ m, WroteFirst s (frameAddr s) (fun j => v.extractLsb' (24 - 8 * j) 8) 4 m ∧
      s.pushLong w v = .ok (s.pushed m) := by
  have hcpu := cpuTo_setReg32 s sp (s.reg32 sp - 4)
  have hrun := runsFrom_storeLong (s := s.setReg32 sp (s.reg32 sp - 4)) (a := frameAddr s) (w := w) (v := v)
    (evenAddr_frameAddr s) (hram.of_cpu hcpu) hs
  obtain ⟨m, hw, he⟩ := hrun.completes hwf hr
  rw [List.sum_append, cyclesOf_sum, cyclesOf_sum] at hw
  exact ⟨m, hw.of_cpu hcpu, (pushLong_eq s w v).trans he⟩

/-! ### Calls (R306 to R310, R312) -/

theorem WroteFirst.of_reads {s u : State} {a : Addr} {b : Nat → Byte} {k : Nat} {m : Memory} (hs : ReadsTo s u)
    (h : WroteFirst u a b k m) : WroteFirst s a b k m where
  wf := h.wf
  written j hj c hc := h.written j hj c ((hs.locate _).trans hc)
  others c hc := (h.others c fun j hj => by rw [hs.locate]; exact hc j hj).trans (congrArg (Memory.read · c) hs.mem)

theorem SameOutside.of_reads {s u t : State} {a : Addr} {nb : Nat} (hs : ReadsTo s u) (h : SameOutside u t a nb) :
    SameOutside s t a nb := fun x hd hx => by
  obtain ⟨-, -, -, -, hmem⟩ := hs.frame (t := u) rfl
  rw [← hmem.bytes x hd]
  exact h x (by rwa [hs.locate]) (by rwa [hs.sameInputs.mcuMode])

theorem ReadsTo.frameAddr {s u : State} (h : ReadsTo s u) : Machine.frameAddr u = Machine.frameAddr s := by
  rw [Machine.frameAddr, Machine.frameAddr, h.reg32]

theorem callForm_reads {s : State} {i : Instr} {len : Nat} {target : Addr} {s1 : State} (h : CallForm s i len target s1) :
    ReadsTo s s1 ∧ exec i s = finish (s1.call len target) ∧ (len = 2 ∨ len = 4) := by
  rcases h with ⟨p, rfl, rfl, rfl, rfl⟩ | ⟨p, rfl, rfl, rfl, rfl⟩ | ⟨n, rfl, rfl, rfl, rfl⟩ | ⟨a, rfl, rfl, rfl, rfl⟩ |
    ⟨aa, v, rfl, rfl, rfl, hv⟩
  · exact ⟨.refl s1, rfl, .inl rfl⟩
  · exact ⟨.refl s1, rfl, .inr rfl⟩
  · exact ⟨.refl s1, rfl, .inl rfl⟩
  · exact ⟨.refl s1, rfl, .inr rfl⟩
  · have he : exec (.jsrMemInd aa) s = finish (s.readLong (aa.zeroExtend 24) >>= fun r => r.2.call 2 (ea24 r.1)) := rfl
    exact ⟨readsTo_of_readLong hv, by rw [he, hv]; rfl, .inl rfl⟩

/-- Settles O45: the call pushes a free byte and the return address, in the state after its operands have been read. -/
theorem calls : Obligations.Calls := by
  intro s s1 i len target hform hr hwf hst
  obtain ⟨hread, he, -⟩ := callForm_reads hform
  have hdrawn : CpuTo s1 (s1.drawn 1) := ⟨s1.er, s1.pc, s1.ccr, s1.irqInhibit, s1.draws + 1, rfl⟩
  have hr1 : (s1.drawn 1).resDuring = none := hread.sameInputs.resDuring.trans hr
  have hwf1 : (s1.drawn 1).mem.wf = true := (congrArg Memory.wf hread.mem).trans hwf
  have hframe : frameAddr (s1.drawn 1) = frameAddr s := hread.frameAddr
  have hst1 : Storable (s1.drawn 1) (len + 4) 4 (frameAddr (s1.drawn 1)) := by
    rw [hframe]
    exact hst.congr (hread.sameInputs.trans hdrawn.sameInputs) hread.pc
  have hnextPc : s1.nextPc len = s.pc + BitVec.ofNat 24 len := by rw [State.nextPc, hread.pc]
  have hreg : s1.reg32 sp = s.reg32 sp := hread.reg32 sp
  obtain ⟨s2, h2, hwrites, hstored⟩ := pushLong_completes (s1.freeByte ++ s1.nextPc len) hr1 hwf1 hst1
  have hend : CpuTo s2 (s2.setPc target) := ⟨s2.er, evenAddr target, s2.ccr, s2.irqInhibit, s2.draws, rfl⟩
  have hpushed := hdrawn.trans (cpuTo_setReg32 (s1.drawn 1) sp ((s1.drawn 1).reg32 sp - 4))
  rw [hframe, hnextPc] at hstored
  refine ⟨s2.setPc target, s1.freeByte, ?_, rfl, ?_, fun m hm => ?_, hwrites.ccr.trans hread.ccr,
    ((hread.sameInputs.trans hpushed.sameInputs).trans hwrites.sameInputs).trans hend.sameInputs,
    ((hread.sameProcessing.trans hpushed.sameProcessing).trans hwrites.sameProcessing).trans hend.sameProcessing,
    hwrites.irqInhibit.trans hread.irqInhibit,
    hstored.of_cpu hdrawn hend, fun hram => ?_⟩
  · have hcall : s1.call len target = (s1.drawn 1).pushLong (len + 4) (s1.freeByte ++ s1.nextPc len) >>= fun u =>
        return u.setPc target := rfl
    rw [he, hcall, h2]
    rfl
  · rw [State.setPc_reg32, hwrites.reg32, reg32_setReg32_same, State.drawn_reg32, hreg]
  · rw [State.setPc_reg32, hwrites.reg32, reg32_setReg32_other _ _ hm, State.drawn_reg32, hread.reg32]
  · obtain ⟨m, hm, h2'⟩ := pushLong_of_ram (s := s1.drawn 1) (w := len + 4) (s1.freeByte ++ s1.nextPc len) hr1 hwf1
      (by rw [hframe]; exact fun j hj => by rw [hdrawn.locate, hread.locate]; exact hram j hj) fun j hj => (hst1 j hj).1
    obtain rfl := Except.ok.inj (h2.symm.trans h2')
    rw [hframe, hnextPc] at hm
    have hm1 := hm.of_cpu hdrawn
    refine ⟨holdsLong_of_wrote (s := s1) hm1 (fun j hj => by rw [hread.locate]; exact hram j hj) fun x =>
        locate_congr rfl rfl rfl rfl x, SameOutside.of_reads hread (sameOutside_of_wrote hm1
          ⟨rfl, rfl, rfl, rfl, rfl, rfl, rfl, rfl, rfl⟩ ⟨rfl, rfl, rfl, rfl, rfl, rfl, rfl⟩),
      ⟨rfl, rfl, rfl, rfl, rfl, rfl, rfl⟩, ⟨rfl, rfl⟩⟩

/-! ### Exceptions (R365, R386, R389) -/

/-- `s` after an exception has been taken, with the cells `m`, in the processing state `p`. -/
def State.excepted (s : State) (p : ProcessingState) (m : Memory) (v : Long) : State :=
  ((s.setPstate p).pushed m).maskInterrupts.setPc (ea24 v)

theorem evenAddr_vector (k : Nat) : evenAddr (BitVec.ofNat 24 (4 * k)) = BitVec.ofNat 24 (4 * k) := by
  apply BitVec.eq_of_toNat_eq
  rw [evenAddr_toNat, BitVec.toNat_ofNat]
  omega

/-- A longword apart from the frame is still there after the push. -/
theorem holdsLong_of_apart {s t : State} {a f : Addr} {b : Nat → Byte} {v : Long} (h : WroteFirst s f b 4 t.mem)
    (hl : ∀ x, t.locate x = s.locate x) (hv : HoldsLong s a v) (hap : Apart s a 4 f 4) : HoldsLong t a v := by
  intro j hj
  obtain ⟨hm, hb⟩ := hv j hj
  obtain ⟨k, hk⟩ := Place.isMemory_iff.mp hm
  have hcell : (s.locate (a + BitVec.ofNat 24 j)).cell = some k := by rcases hk with hk | hk <;> rw [hk] <;> rfl
  have hread : t.mem.read k = s.mem.read k := h.others k fun i hi e =>
    cell_ne_of_phys_ne hcell (by rw [e]; rfl) (hap j hj i hi) rfl
  refine ⟨by rw [hl]; exact hm, ?_⟩
  rw [peekByte_of_cell (by rwa [hl]), hread, ← peekByte_of_cell hk, hb]

/-- With the stack in RAM and the vector in memory apart from the frame, an exception is taken. -/
theorem takeException_of {s : State} (p : ProcessingState) {w k : Nat} {ret : Addr} {v : Long} (hr : s.resDuring = none)
    (hwf : s.mem.wf = true) (hram : RamAt s 4 (frameAddr s))
    (hs : ∀ j, j < 4 → s.inStream w (frameAddr s + BitVec.ofNat 24 j) = false)
    (hv : HoldsLong s (BitVec.ofNat 24 (4 * k)) v) (hap : Apart s (BitVec.ofNat 24 (4 * k)) 4 (frameAddr s) 4) :
    ∃ m, WroteFirst s (frameAddr s) (fun j => (s.ccr ++ ret : Long).extractLsb' (24 - 8 * j) 8) 4 m ∧
      (s.setPstate p).takeException w k ret = .ok (s.excepted p m v) := by
  have hlocate : ∀ x, (s.setPstate p).locate x = s.locate x := fun x => locate_congr rfl rfl rfl rfl x
  have hramP : RamAt (s.setPstate p) 4 (frameAddr (s.setPstate p)) := fun j hj => by rw [hlocate]; exact hram j hj
  obtain ⟨m, hm, hpush⟩ := pushLong_of_ram (s := s.setPstate p) (w := w) (s.ccr ++ ret) hr hwf hramP hs
  have hm' : WroteFirst s (frameAddr s) (fun j => (s.ccr ++ ret : Long).extractLsb' (24 - 8 * j) 8) 4 m :=
    ⟨hm.wf, fun j hj c hc => hm.written j hj c ((hlocate _).trans hc), fun c hc => hm.others c fun j hj => by
      rw [hlocate]
      exact hc j hj⟩
  refine ⟨m, hm', ?_⟩
  have hvector : HoldsLong ((s.setPstate p).pushed m).maskInterrupts (evenAddr (BitVec.ofNat 24 (4 * k))) v := by
    rw [evenAddr_vector]
    exact holdsLong_of_apart hm' (fun x => locate_congr rfl rfl rfl rfl x) hv hap
  have htake : (s.setPstate p).takeException w k ret =
      (s.setPstate p).pushLong w (s.ccr ++ ret) >>= fun s1 => s1.maskInterrupts.vectorTo k := rfl
  rw [htake, hpush]
  change ((s.setPstate p).pushed m).maskInterrupts.vectorTo k = _
  rw [State.vectorTo, readLong_of_holds hvector]
  rfl

theorem getFlag_maskInterrupts (s : State) :
    s.maskInterrupts.flag .I = true ∧
      s.maskInterrupts.flag .UI = (if s.userBitEnabled then s.flag .UI else true) ∧
      ∀ f, f ≠ .I → f ≠ .UI → s.maskInterrupts.flag f = s.flag f := by
  unfold State.maskInterrupts State.setCcr State.flag
  cases s.userBitEnabled with
  | false => exact ⟨by simp, by simp, fun f hI hUI => by simp [hI, hUI]⟩
  | true => exact ⟨by simp, by simp, fun f hI hUI => by simp [hI]⟩

theorem tookException_of {s : State} {p : ProcessingState} {m : Memory} {ret : Addr} {v : Long}
    (h : WroteFirst s (frameAddr s) (fun j => (s.ccr ++ ret : Long).extractLsb' (24 - 8 * j) 8) 4 m)
    (hram : RamAt s 4 (frameAddr s)) : TookException s (s.excepted p m v) ret v := by
  obtain ⟨hI, hUI, hother⟩ := getFlag_maskInterrupts ((s.setPstate p).pushed m)
  exact {
    stackPointer := reg32_setReg32_same ({ s with mem := m, pstate := p } : State) sp _
    otherRegs := fun n hn => reg32_setReg32_other ({ s with mem := m, pstate := p } : State) _ hn
    frame := holdsLong_of_wrote (t := s.excepted p m v) h hram fun x => locate_congr rfl rfl rfl rfl x
    outside := sameOutside_of_wrote (t := s.excepted p m v) h ⟨rfl, rfl, rfl, rfl, rfl, rfl, rfl, rfl, rfl⟩
      ⟨rfl, rfl, rfl, rfl, rfl, rfl, rfl⟩
    maskI := hI
    maskUI := hUI
    otherFlags := hother
    pc := rfl
    inputs := ⟨rfl, rfl, rfl, rfl, rfl, rfl, rfl, rfl, rfl⟩
    control := ⟨rfl, rfl, rfl, rfl, rfl, rfl, rfl⟩
    devices := ⟨rfl, rfl⟩ }

/-- Settles O50: TRAPA is the taking of its exception, with its own bytes protected. -/
theorem trapTakesException : Obligations.TrapTakesException := by
  intro s k v hr hwf hram hst hv hap
  obtain ⟨m, hm, htake⟩ := takeException_of (ret := s.nextPc 2) s.pstate hr hwf hram (fun j hj => (hst j hj).1) hv hap
  have hnext : exec (.trapa k) s = .next (s.excepted s.pstate m v) := congrArg finish htake
  exact ⟨_, hnext, tookException_of hm hram, ⟨rfl, rfl, rfl, rfl⟩, rfl⟩

/-! ### Returns that undo an entry (R311, R321, R390) -/

theorem getLsbD_frame (x : Byte) (a : Addr) (i : Nat) :
    BitVec.getLsbD (w := 32) (x ++ a) i = if i < 24 then a.getLsbD i else x.getLsbD (i - 24) := BitVec.getLsbD_append

theorem ea24_append (x : Byte) (a : Addr) : ea24 (x ++ a) = a := by
  apply BitVec.eq_of_getLsbD_eq
  intro i hi
  rw [ea24, BitVec.getLsbD_extractLsb', decide_eq_true hi, Bool.true_and, getLsbD_frame, if_pos (by omega), Nat.zero_add]

theorem extract_top_append (x : Byte) (a : Addr) : (x ++ a : Long).extractLsb' 24 8 = x := by
  apply BitVec.eq_of_getLsbD_eq
  intro i hi
  rw [BitVec.getLsbD_extractLsb', decide_eq_true hi, Bool.true_and, getLsbD_frame, if_neg (by omega),
    Nat.add_sub_cancel_left]

/-- The instruction after one of even length is at an even address. -/
theorem evenAddr_add_even {a : Addr} (h : a.getLsbD 0 = false) (k : Nat) :
    evenAddr (a + BitVec.ofNat 24 (2 * k)) = a + BitVec.ofNat 24 (2 * k) := by
  have ha : 2 * (a.toNat / 2) = a.toNat := by rw [← evenAddr_toNat, evenAddr_of_even h]
  apply BitVec.eq_of_toNat_eq
  rw [evenAddr_toNat, BitVec.toNat_add, BitVec.toNat_ofNat]
  omega

/-- What a return leaves of the registers, after an entry that took four bytes of stack. -/
theorem sameRegs_of_return {s t u : State} (hsp : t.reg32 sp = s.reg32 sp - 4) (ht : OtherRegs sp s t)
    (hsp' : u.reg32 sp = t.reg32 sp + 4) (hu : OtherRegs sp t u) : SameRegs s u := fun n => by
  by_cases hn : n = sp
  · rw [hn, hsp', hsp, BitVec.sub_add_cancel]
  · rw [hu n hn, ht n hn]

/-- A return changes no byte, and so leaves outside the frame what the entry left there. -/
theorem sameOutside_of_return {s t u : State} {a : Addr} {nb : Nat} (h : SameOutside s t a nb)
    (hl : ∀ x, t.locate x = s.locate x) (hu : SameMemory t u) : SameOutside s u a nb := fun x hd hx =>
  (hu.bytes x (by rwa [hl])).trans (h x hd hx)

/-- Settles O51: the frame that the entry leaves is the one the return pops. -/
theorem returnUndoesEntry : Obligations.ReturnUndoesEntry := by
  refine ⟨fun s k v hr hwf hpc hram hst hv hap => ?_, fun s s1 i len target hform hr hwf hpc hram hst => ?_⟩
  · obtain ⟨t, hnext, ht, -, -⟩ := trapTakesException s k v hr hwf hram hst hv hap
    have hframe : HoldsLong t (evenAddr (ea24 (t.reg32 sp))) (s.ccr ++ (s.pc + 2)) := by
      rw [ht.stackPointer]
      exact ht.frame
    obtain ⟨-, u, hu, hupc, huccr, husp, huregs, honly⟩ := returns t _ hframe
    rw [ea24_append] at hupc
    rw [extract_top_append] at huccr
    have hl : ∀ x, t.locate x = s.locate x := fun x => locate_congr ht.inputs.mcuMode ht.inputs.product
      ht.inputs.platform (by simp only [State.ramEnabled, ht.control.syscr]) x
    exact ⟨t, u, hnext, ht.pc, hu, hupc.trans (evenAddr_add_even hpc 1), huccr,
      sameRegs_of_return ht.stackPointer ht.otherRegs husp huregs, sameOutside_of_return ht.outside hl honly.memory⟩
  · obtain ⟨t, x, hnext, htpc, htsp, htregs, htccr, htin, -, -, -, htram⟩ := calls s s1 i len target hform hr hwf hst
    obtain ⟨hholds, houtside, htcontrol, -⟩ := htram hram
    obtain ⟨hread, -, hlen⟩ := callForm_reads hform
    have hframe : HoldsLong t (evenAddr (ea24 (t.reg32 sp))) (x ++ (s.pc + BitVec.ofNat 24 len)) := by
      rw [htsp]
      exact hholds
    obtain ⟨⟨u, hu, hupc, huccr, husp, huregs, honly⟩, -⟩ := returns t _ hframe
    rw [ea24_append] at hupc
    have heven : evenAddr (s.pc + BitVec.ofNat 24 len) = s.pc + BitVec.ofNat 24 len := by
      rcases hlen with rfl | rfl
      · exact evenAddr_add_even hpc 1
      · exact evenAddr_add_even hpc 2
    have hl : ∀ x, t.locate x = s.locate x := fun x => by
      rw [← hread.locate]
      have hin1 : t.mcuMode = s1.mcuMode ∧ t.product = s1.product ∧ t.platform = s1.platform :=
        ⟨htin.mcuMode.trans hread.sameInputs.mcuMode.symm, htin.product.trans hread.sameInputs.product.symm,
          htin.platform.trans hread.sameInputs.platform.symm⟩
      exact locate_congr hin1.1 hin1.2.1 hin1.2.2 (by simp only [State.ramEnabled, htcontrol.syscr]) x
    exact ⟨t, u, hnext, htpc, hu, hupc.trans heven, sameRegs_of_return htsp htregs husp huregs, huccr.trans htccr,
      sameOutside_of_return houtside hl honly.memory⟩

/-! ### Interrupt entry (R386, R403, R404) -/

theorem holdsLong_congr {s t : State} {a : Addr} {v : Long} (hl : ∀ x, t.locate x = s.locate x) (hm : t.mem = s.mem)
    (h : HoldsLong s a v) : HoldsLong t a v := by
  intro j hj
  obtain ⟨hmem, hv⟩ := h j hj
  obtain ⟨k, hk⟩ := Place.isMemory_iff.mp hmem
  refine ⟨by rw [hl]; exact hmem, ?_⟩
  rw [peekByte_of_cell (by rwa [hl]), hm, ← peekByte_of_cell hk, hv]

/-- No module's request is accepted in software standby mode: what is accepted there has ended it (R404, D14). -/
theorem wakes_of_accepted {s : State} {r : Source} (hp : s.pstate = .softwareStandby) (h : s.accepted = some r) :
    s.wakes = true := by
  obtain ⟨-, hpres, -⟩ := accepted_some h
  rw [wakes_iff]
  rcases presented_some hpres with ⟨hn, -⟩ | ⟨-, hr⟩
  · exact .inl hn
  · cases r with
    | nmi => exact absurd hr (nmi_not_mem_maskableRequests s)
    | irq l => exact .inr ⟨l, hr⟩
    | internal m => exact absurd hp ((internal_mem_maskableRequests s m).mp hr).2

/-- In all three states an accepted request is entered at once. -/
theorem step_of_accepted {s : State} {r : Source} (hp : s.pstate.inProgram) (hr : s.resLow = false)
    (hs : s.stbyLow = false) (ha : s.samplePins.accepted = some r) :
    step s = settle (finish (s.samplePins.enterInterrupt r)) := by
  rcases hp with hp | hp | hp
  · simp only [step, State.sampledStep, samplePins_pstate, hp, samplePins_resLow, hr, samplePins_stbyLow, hs,
      State.programStep, ha, Bool.false_eq_true, if_false]
  · rw [step_of_sleep hp hr hs, State.sleepStep, ha]
  · rw [step_of_softwareStandby hp hr hs, State.standbyStep, wakes_of_accepted (s := s.samplePins) hp ha, if_pos rfl, ha]

/-- Settles O54: the entry is an exception taken in the state that the acknowledge leaves. -/
theorem interruptEntry : Obligations.InterruptEntry := by
  intro s r n v hmem hp hres hdur hstby hacc hwf hram hv hap a
  obtain ⟨q, i, j, hack⟩ := acknowledge_eq s.samplePins r
  have ha : a = { s.samplePins with nmiRequest := q, isr := i, isrRead := j } := hack
  have hl : ∀ x, a.locate x = s.locate x := fun x => by
    rw [ha]
    exact locate_congr rfl rfl rfl rfl x
  have hfields : a.resDuring = none ∧ a.mem = s.mem ∧ frameAddr a = frameAddr s ∧ a.mcuMode = s.mcuMode := by
    rw [ha]
    exact ⟨hdur, rfl, rfl, rfl⟩
  obtain ⟨hdur', hmem', hframe, hmode⟩ := hfields
  have hram' : RamAt a 4 (frameAddr a) := fun j hj => by rw [hl, hframe]; exact hram j hj
  obtain ⟨m, hm, htake⟩ := takeException_of (s := a) (w := 0) (k := n) (ret := s.pc) .program hdur' (hmem' ▸ hwf) hram'
    (fun _ _ => inStream_zero a _) (holdsLong_congr hl hmem' hv) (by rw [Apart, hmode, hframe]; exact hap)
  have henter : s.samplePins.enterInterrupt r = .ok (a.excepted .program m v) := by
    rw [← htake, ← (vector_iff_mem r n).mpr hmem]
    rfl
  have hstep : step s = .next (a.excepted .program m v) := by
    rw [step_of_accepted hp hres hstby hacc, henter]
    exact congrArg Host.Outcome.next (resFalls_of hdur')
  exact ⟨_, hstep, tookException_of hm hram', rfl, rfl, rfl, rfl, rfl⟩

end Sys2Proof.Machine

/-! ### Block transfer (R350 to R352) -/

namespace Sys2Proof.Machine

/-! ### One byte -/

/-- Two ends of a sequence that agree where its first part ends well. -/
theorem bind_congr_ok {α β : Type} {x : Res α} {f g : α → Res β} (h : ∀ a, x = .ok a → f a = g a) :
    x >>= f = x >>= g := by
  cases x with
  | error e => rfl
  | ok a => exact h a rfl

/-- A stored byte changes no general register. -/
theorem reg32_of_storeByte {s t : State} {w : Nat} {a : Addr} {v : Byte} (h : s.storeByte w a v = .ok t) (n : RegNum) :
    t.reg32 n = s.reg32 n := by
  obtain ⟨s1, h1, h2⟩ := storeByte_ok h
  obtain ⟨-, -, rfl⟩ := admitStore_ok h1
  exact (writesTo_of_writeByte h2).reg32 n

/-- What the move of one byte does: a read, a store, and both pointers up. -/
theorem transferByte_eq {s s1 : State} {v : Byte} (h : s.readByte (sourceAt s 0) = .ok (v, s1)) :
    s.transferByte 4 = s1.storeByte 8 (destinationAt s 0) v >>= fun s2 =>
      return (s2.setReg32 5 (s.reg32 5 + 1)).setReg32 6 (s.reg32 6 + 1) := by
  have hread := readsTo_of_readByte h
  have hd : ea24 (s1.reg32 6) = destinationAt s 0 := by
    rw [hread.reg32]
    exact (BitVec.add_zero _).symm
  have hs : sourceAt s 0 = ea24 (s.reg32 5) := BitVec.add_zero _
  rw [hs] at h
  rw [State.transferByte, h]
  change (s1.storeByte 8 (ea24 (s1.reg32 6)) v >>= _) = _
  rw [hd]
  refine bind_congr_ok fun s2 h2 => ?_
  have hreg := fun n => (reg32_of_storeByte h2 n).trans (hread.reg32 n)
  simp only [hreg, reg32_setReg32_other _ _ (show (6 : RegNum) ≠ 5 by decide)]

theorem ea24_add_ofNat (l : Long) (k : Nat) : ea24 (l + BitVec.ofNat 32 k) = ea24 l + BitVec.ofNat 24 k := by
  apply BitVec.eq_of_toNat_eq
  simp only [ea24_toNat, BitVec.toNat_add, BitVec.toNat_ofNat]
  omega

/-- `u` is `s` after `k` bytes of a block have been moved, byte `j` being `b j`; ER4 may be anything. -/
structure Moving (s : State) (k : Nat) (b : Nat → Byte) (u : State) : Prop where
  frame : u = { s with er := u.er, mem := u.mem }
  wrote : WroteFirst s (ea24 (s.reg32 6)) b k u.mem
  source : u.reg32 5 = s.reg32 5 + BitVec.ofNat 32 k
  destination : u.reg32 6 = s.reg32 6 + BitVec.ofNat 32 k
  others : ∀ m : RegNum, m ≠ 4 → m ≠ 5 → m ≠ 6 → u.reg32 m = s.reg32 m
  fresh : ∀ j, j < k → (∀ i, i < j → phys s.mcuMode (sourceAt s j) ≠ phys s.mcuMode (destinationAt s i)) →
    s.peekByte (sourceAt s j) = .ok (b j)
  overlapping : ∀ i j, i < j → j < k → phys s.mcuMode (sourceAt s j) = phys s.mcuMode (destinationAt s i) → b j = b i

theorem moving_zero {s : State} (b : Nat → Byte) (hm : s.mem.wf = true) : Moving s 0 b s where
  frame := rfl
  wrote := wroteFirst_zero _ b hm
  source := (BitVec.add_zero _).symm
  destination := (BitVec.add_zero _).symm
  others _ _ _ _ := rfl
  fresh _ hj := by omega
  overlapping _ _ _ hj := by omega

/-- The counter is no part of what has been moved. -/
theorem Moving.setCounter {s u : State} {k : Nat} {b : Nat → Byte} (h : Moving s k b u) (v : Long) :
    Moving s k b (u.setReg32 4 v) where
  frame := by
    conv_lhs => rw [h.frame]
    rfl
  wrote := h.wrote
  source := (reg32_setReg32_other u v (by decide)).trans h.source
  destination := (reg32_setReg32_other u v (by decide)).trans h.destination
  others m h4 h5 h6 := (reg32_setReg32_other u v h4).trans (h.others m h4 h5 h6)
  fresh := h.fresh
  overlapping := h.overlapping

theorem Moving.locate {s u : State} {k : Nat} {b : Nat → Byte} (h : Moving s k b u) (a : Addr) :
    u.locate a = s.locate a := by
  rw [h.frame]
  exact locate_congr rfl rfl rfl rfl a

theorem Moving.inStream {s u : State} {k : Nat} {b : Nat → Byte} (h : Moving s k b u) (w : Nat) (a : Addr) :
    u.inStream w a = s.inStream w a := by
  rw [h.frame]
  rfl

theorem Moving.resDuring {s u : State} {k : Nat} {b : Nat → Byte} (h : Moving s k b u) : u.resDuring = s.resDuring := by
  rw [h.frame]

theorem Moving.source_eq {s u : State} {k : Nat} {b : Nat → Byte} (h : Moving s k b u) :
    sourceAt u 0 = sourceAt s k := by
  rw [sourceAt, BitVec.add_zero, h.source, ea24_add_ofNat]
  rfl

theorem Moving.destination_eq {s u : State} {k : Nat} {b : Nat → Byte} (h : Moving s k b u) :
    destinationAt u 0 = destinationAt s k := by
  rw [destinationAt, BitVec.add_zero, h.destination, ea24_add_ofNat]
  rfl

/-- What the next byte of the source holds now: what it held at first, or what has been moved over it. -/
theorem Moving.next_byte {s u : State} {k : Nat} {b : Nat → Byte} (h : Moving s k b u)
    (hm : (s.locate (sourceAt s k)).isMemory = true) (hram : RamAt s k (ea24 (s.reg32 6))) :
    ∃ v, u.peekByte (sourceAt s k) = .ok v ∧
      ((∀ i, i < k → phys s.mcuMode (sourceAt s k) ≠ phys s.mcuMode (destinationAt s i)) →
        s.peekByte (sourceAt s k) = .ok v) ∧
      ∀ i, i < k → phys s.mcuMode (sourceAt s k) = phys s.mcuMode (destinationAt s i) → v = b i := by
  obtain ⟨c, hc⟩ := Place.isMemory_iff.mp hm
  have hcell : (s.locate (sourceAt s k)).cell = some c := by rcases hc with hc | hc <;> rw [hc] <;> rfl
  refine ⟨u.mem.read c, peekByte_of_cell (by rwa [h.locate]), fun hfresh => ?_, fun i hi hphys => ?_⟩
  · rw [peekByte_of_cell hc, h.wrote.others c fun i hi e => cell_ne_of_phys_ne hcell
      (show (s.locate (destinationAt s i)).cell = some c by rw [destinationAt, e]; rfl) (hfresh i hi) rfl]
  · obtain ⟨d, hd⟩ := Place.isRam_iff.mp (hram i hi)
    have hsame : s.locate (sourceAt s k) = .ram d := (locate_of_phys_eq hphys).trans hd
    have hcd : c = d := Option.some.inj (hcell.symm.trans (congrArg Place.cell hsame))
    rw [hcd]
    exact h.wrote.written i hi d hd

/-- `u` after the byte `v` has been moved to the cell `c`. -/
def State.movedByte (u : State) (c : Nat) (v : Byte) : State :=
  (({ u with mem := u.mem.write c v } : State).setReg32 5 (u.reg32 5 + 1)).setReg32 6 (u.reg32 6 + 1)

theorem movedByte_reg32 (u : State) (c : Nat) (v : Byte) (n : RegNum) :
    (u.movedByte c v).reg32 n = if n = 6 then u.reg32 6 + 1 else if n = 5 then u.reg32 5 + 1 else u.reg32 n := by
  unfold State.movedByte
  by_cases h6 : n = 6
  · rw [if_pos h6, h6, reg32_setReg32_same]
  · rw [if_neg h6, reg32_setReg32_other _ _ h6]
    by_cases h5 : n = 5
    · rw [if_pos h5, h5, reg32_setReg32_same]
    · rw [if_neg h5, reg32_setReg32_other _ _ h5]
      rfl

/-- A byte is moved where its source is memory and its destination is RAM outside the instruction stream. -/
theorem Moving.step {s u : State} {n k : Nat} {b : Nat → Byte} (h : Moving s k b u) (hready : BlockReady n s) (hk : k < n)
    (hn : k < 0x100000) :
    ∃ b' u', u.transferByte 4 = .ok u' ∧ Moving s (k + 1) b' u' ∧ u'.reg32 4 = u.reg32 4 := by
  obtain ⟨hr, -, hsource, hram, hst⟩ := hready
  obtain ⟨v, hv, hfresh, hover⟩ := h.next_byte (hsource k hk) fun i hi => hram i (by omega)
  obtain ⟨c, hc⟩ := Place.isRam_iff.mp (hram k hk)
  have hread : u.readByte (sourceAt u 0) = .ok (v, u) := by
    rw [h.source_eq]
    exact readByte_of_isMemory (by rw [h.locate]; exact hsource k hk) hv
  have hstore : u.storeByte 8 (destinationAt u 0) v = .ok { u with mem := u.mem.write c v } := by
    rw [h.destination_eq, storeByte_of (h.resDuring.trans hr) (by rw [h.inStream]; exact (hst k hk).1)]
    exact writeByte_of_ram v ((h.locate _).trans hc)
  have hmove : u.transferByte 4 = .ok (u.movedByte c v) := by
    rw [transferByte_eq hread, hstore]
    rfl
  have hlow : ∀ j, j < k → (if j = k then v else b j) = b j := fun j hj => if_neg (by omega)
  have hwrote : WroteFirst s (ea24 (s.reg32 6)) (fun j => if j = k then v else b j) k u.mem :=
    ⟨h.wrote.wf, fun j hj d hd => (h.wrote.written j hj d hd).trans (hlow j hj).symm, h.wrote.others⟩
  refine ⟨fun j => if j = k then v else b j, _, hmove, ?_, by rw [movedByte_reg32]; rfl⟩
  · exact {
      frame := by
        conv_lhs => rw [h.frame]
        rfl
      wrote := by
        have hnext := hwrote.succ hn hc
        simp only [if_true] at hnext
        exact hnext
      source := by
        rw [movedByte_reg32, if_neg (by decide), if_pos rfl, h.source, BitVec.ofNat_add, ← BitVec.add_assoc]
        rfl
      destination := by
        rw [movedByte_reg32, if_pos rfl, h.destination, BitVec.ofNat_add, ← BitVec.add_assoc]
        rfl
      others := fun m h4 h5 h6 => by
        rw [movedByte_reg32, if_neg h6, if_neg h5]
        exact h.others m h4 h5 h6
      fresh := fun j hj hphys => by
        by_cases hjk : j = k
        · subst hjk
          rw [if_pos rfl]
          exact hfresh hphys
        · rw [if_neg hjk]
          exact h.fresh j (by omega) hphys
      overlapping := fun i j hij hj hphys => by
        rw [hlow i (by omega)]
        by_cases hjk : j = k
        · subst hjk
          rw [if_pos rfl]
          exact hover i hij hphys
        · rw [if_neg hjk]
          exact h.overlapping i j hij (by omega) hphys }

/-! ### The block -/

/-- `r` more bytes with the counter R4L. -/
theorem Moving.transferB {s : State} {n : Nat} (hready : BlockReady n s) (hn : n ≤ 0x100000) (r : Nat) :
    ∀ {k : Nat} {b : Nat → Byte} {u : State}, Moving s k b u → k + r ≤ n →
      ∃ b' t, State.transferB r 4 u = .ok t ∧ Moving s (k + r) b' t ∧
        t.reg8 (.l 4) = u.reg8 (.l 4) - BitVec.ofNat 8 r ∧ t.reg8 (.h 4) = u.reg8 (.h 4) ∧
        t.reg16 (.e 4) = u.reg16 (.e 4) := by
  induction r with
  | zero => exact fun {k b u} h _ => ⟨b, u, rfl, h, (BitVec.sub_zero _).symm, rfl, rfl⟩
  | succ r ih =>
    intro k b u h hk
    obtain ⟨b1, u1, h1, hm1, h4⟩ := h.step hready (by omega) (by omega)
    obtain ⟨b', t, ht, hmt, hl, hh, he⟩ := ih (hm1.setCounter (putByte (u1.reg32 4) (u1.reg8 (.l 4) - 1) (.l 4))) (by omega)
    refine ⟨b', t, by rw [State.transferB, h1]; exact ht, by rwa [Nat.add_right_comm, Nat.add_assoc] at hmt, ?_, ?_, ?_⟩
    · rw [hl]
      refine (congrArg (· - BitVec.ofNat 8 r) (reg8_setReg8_same u1 (.l 4) _)).trans ?_
      rw [reg8_congr_at (.l 4) h4, Nat.add_comm r 1, BitVec.ofNat_add, BitVec.sub_sub]
      rfl
    · exact hh.trans ((reg8_setReg8_other u1 (q := .h 4) (r := .l 4) _ (by decide)).trans (reg8_congr_at (.h 4) h4))
    · exact he.trans ((upper_setReg8 u1 (.l 4) _ 4).trans (reg16_congr_at (.e 4) h4))

/-- `r` more bytes with the counter R4. -/
theorem Moving.transferW {s : State} {n : Nat} (hready : BlockReady n s) (hn : n ≤ 0x100000) (r : Nat) :
    ∀ {k : Nat} {b : Nat → Byte} {u : State}, Moving s k b u → k + r ≤ n →
      ∃ b' t, State.transferW r 4 u = .ok t ∧ Moving s (k + r) b' t ∧
        t.reg16 (.r 4) = u.reg16 (.r 4) - BitVec.ofNat 16 r ∧ t.reg16 (.e 4) = u.reg16 (.e 4) := by
  induction r with
  | zero => exact fun {k b u} h _ => ⟨b, u, rfl, h, (BitVec.sub_zero _).symm, rfl⟩
  | succ r ih =>
    intro k b u h hk
    obtain ⟨b1, u1, h1, hm1, h4⟩ := h.step hready (by omega) (by omega)
    obtain ⟨b', t, ht, hmt, hl, he⟩ := ih (hm1.setCounter (putWord (u1.reg32 4) (u1.reg16 (.r 4) - 1) (.r 4))) (by omega)
    refine ⟨b', t, by rw [State.transferW, h1]; exact ht, by rwa [Nat.add_right_comm, Nat.add_assoc] at hmt, ?_, ?_⟩
    · rw [hl]
      refine (congrArg (· - BitVec.ofNat 16 r) (reg16_setReg16_same u1 (.r 4) _)).trans ?_
      rw [reg16_congr_at (.r 4) h4, Nat.add_comm r 1, BitVec.ofNat_add, BitVec.sub_sub]
      rfl
    · exact he.trans ((reg16_setReg16_other u1 (q := .e 4) (r := .r 4) _ (by decide)).trans (reg16_congr_at (.e 4) h4))

/-- A block that has been moved, whatever has become of PC and the NMI. -/
theorem Moving.movedBlock {s t u : State} {n : Nat} {b : Nat → Byte} (h : Moving s n b t)
    (hu : u = { t with pc := u.pc, nmiRequest := u.nmiRequest, nmiDuringTransfer := u.nmiDuringTransfer })
    (hram : RamAt s n (ea24 (s.reg32 6))) : MovedBlock n s u := by
  have hus : u = { s with er := t.er, mem := t.mem, pc := u.pc, nmiRequest := u.nmiRequest, nmiDuringTransfer :=
      u.nmiDuringTransfer } := by
    conv_lhs => rw [hu, h.frame]
  have hmem : u.mem = t.mem := by rw [hu]
  have hreg : ∀ m, u.reg32 m = t.reg32 m := fun m => by rw [hu]; rfl
  have hl : ∀ a, u.locate a = s.locate a := fun a => by
    rw [hus]
    exact locate_congr rfl rfl rfl rfl a
  have hin : SameInputs s u := by
    rw [hus]
    exact ⟨rfl, rfl, rfl, rfl, rfl, rfl, rfl, rfl, rfl⟩
  have hcontrol : SameControl s u := by
    rw [hus]
    exact ⟨rfl, rfl, rfl, rfl, rfl, rfl, rfl⟩
  have hbyte : ∀ j, j < n → u.peekByte (destinationAt s j) = .ok (b j) := fun j hj => by
    obtain ⟨c, hc⟩ := Place.isRam_iff.mp (hram j hj)
    rw [destinationAt, peekByte_of_ram ((hl _).trans hc), hmem, h.wrote.written j hj c hc]
  exact {
    moved := fun j hj hphys => (hbyte j hj).trans (h.fresh j hj hphys).symm
    overlapping := fun i j hij hj hphys => by
      rw [hbyte j hj, hbyte i (by omega), h.overlapping i j hij hj hphys]
    outside := sameOutside_of_wrote (hmem ▸ h.wrote) hin hcontrol
    source := (hreg 5).trans h.source
    destination := (hreg 6).trans h.destination
    others := fun m h4 h5 h6 => (hreg m).trans (h.others m h4 h5 h6)
    ccr := by rw [hus]
    inputs := hin
    control := hcontrol
    devices := by
      rw [hus]
      exact ⟨rfl, rfl⟩ }

/-! ### EEPMOV -/

/-- What EEPMOV.B leaves, but for an NMI: the block is moved and the counter is 0. -/
theorem eepmovB_moves {s : State} (hready : BlockReady (s.reg8 (.l 4)).toNat s) :
    ∃ b t, Moving s (s.reg8 (.l 4)).toNat b t ∧
      exec .eepmovB s = .next ((t.nmiArrived (s.reg8 (.l 4)).toNat).advance 4) ∧
      t.reg8 (.l 4) = 0#8 ∧ t.reg8 (.h 4) = s.reg8 (.h 4) ∧ t.reg16 (.e 4) = s.reg16 (.e 4) := by
  have hlt := (s.reg8 (.l 4)).isLt
  obtain ⟨b, t, ht, hm, hl, hh, he⟩ := Moving.transferB hready (by omega) _ (moving_zero (fun _ => 0#8) hready.2.1)
    (Nat.zero_add _).le
  rw [Nat.zero_add] at hm
  refine ⟨b, t, hm, ?_, by rw [hl]; simp, hh, he⟩
  have hexec : exec .eepmovB s = finish (State.transferB (s.reg8 (.l 4)).toNat 4 s >>= fun s1 =>
      return (s1.nmiArrived (s.reg8 (.l 4)).toNat).advance 4) := rfl
  rw [hexec, ht]
  rfl

/-- What EEPMOV.W leaves, but for an NMI: as many bytes as `bytesMoved` says are moved and counted. -/
theorem eepmovW_moves {s : State} {n : Nat} (hn : s.bytesMoved (s.reg16 (.r 4)).toNat = n) (hle : n ≤ 0x100000)
    (hready : BlockReady n s) :
    ∃ b t, Moving s n b t ∧ exec .eepmovW s = .next ((t.nmiArrived (s.reg16 (.r 4)).toNat).advance 4) ∧
      t.reg16 (.r 4) = s.reg16 (.r 4) - BitVec.ofNat 16 n ∧ t.reg16 (.e 4) = s.reg16 (.e 4) := by
  obtain ⟨b, t, ht, hm, hl, he⟩ := Moving.transferW hready hle n (moving_zero (fun _ => 0#8) hready.2.1)
    (Nat.zero_add _).le
  rw [Nat.zero_add] at hm
  refine ⟨b, t, hm, ?_, hl, he⟩
  have hexec : exec .eepmovW s = finish (State.transferW (s.bytesMoved (s.reg16 (.r 4)).toNat) 4 s >>= fun s1 =>
      return (s1.nmiArrived (s.reg16 (.r 4)).toNat).advance 4) := rfl
  rw [hexec, hn, ht]
  rfl

/-- Without an NMI during the transfer nothing arrives. -/
theorem nmiArrived_of_late {s : State} {count : Nat} (h : ∀ k, s.nmiDuringTransfer = some k → count ≤ k) :
    s.nmiArrived count = s := by
  unfold State.nmiArrived
  split
  · rfl
  · rw [if_neg (by have := h _ (by assumption); omega)]

theorem nmiArrived_of_early {s : State} {count k : Nat} (h : s.nmiDuringTransfer = some k) (hk : k < count) :
    s.nmiArrived count = { s with nmiRequest := true, nmiDuringTransfer := none } := by
  simp only [State.nmiArrived, h, if_pos hk]

theorem bytesMoved_of_late {s : State} {count : Nat} (h : ∀ k, s.nmiDuringTransfer = some k → count ≤ k) :
    s.bytesMoved count = count := by
  unfold State.bytesMoved
  split
  · rfl
  · rw [if_neg (by have := h _ (by assumption); omega)]

/-- EEPMOV.B where no NMI arrives while the block moves. -/
theorem eepmovB_completes {s : State} (hnmi : ∀ k, s.nmiDuringTransfer = some k → (s.reg8 (.l 4)).toNat ≤ k)
    (hready : BlockReady (s.reg8 (.l 4)).toNat s) :
    ∃ t, exec .eepmovB s = .next t ∧ MovedBlock (s.reg8 (.l 4)).toNat s t ∧ t.reg8 (.l 4) = 0#8 ∧
      t.reg8 (.h 4) = s.reg8 (.h 4) ∧ t.reg16 (.e 4) = s.reg16 (.e 4) ∧ PcAfter 4 s t ∧ SameProcessing s t ∧
      t.irqInhibit = s.irqInhibit := by
  obtain ⟨b, t, hm, hnext, hl, hh, he⟩ := eepmovB_moves hready
  have hframe := hm.frame
  rw [nmiArrived_of_late (by rw [hframe]; exact hnmi)] at hnext
  refine ⟨_, hnext, hm.movedBlock rfl hready.2.2.2.1, by simpa using hl, by simpa using hh, by simpa using he, ?_, ?_, ?_⟩
  · rw [hframe]
    rfl
  · rw [hframe]
    exact ⟨rfl, rfl, rfl, rfl⟩
  · rw [hframe]
    rfl

/-- EEPMOV.W where no NMI arrives while the block moves. -/
theorem eepmovW_completes {s : State} (hnmi : ∀ k, s.nmiDuringTransfer = some k → (s.reg16 (.r 4)).toNat ≤ k)
    (hready : BlockReady (s.reg16 (.r 4)).toNat s) :
    ∃ t, exec .eepmovW s = .next t ∧ MovedBlock (s.reg16 (.r 4)).toNat s t ∧ t.reg16 (.r 4) = 0#16 ∧
      t.reg16 (.e 4) = s.reg16 (.e 4) ∧ PcAfter 4 s t ∧ SameProcessing s t ∧ t.irqInhibit = s.irqInhibit := by
  have hlt := (s.reg16 (.r 4)).isLt
  obtain ⟨b, t, hm, hnext, hl, he⟩ := eepmovW_moves (bytesMoved_of_late hnmi) (by omega) hready
  have hframe := hm.frame
  rw [nmiArrived_of_late (by rw [hframe]; exact hnmi)] at hnext
  refine ⟨_, hnext, hm.movedBlock rfl hready.2.2.2.1, by simpa using hl, by simpa using he, ?_, ?_, ?_⟩
  · rw [hframe]
    rfl
  · rw [hframe]
    exact ⟨rfl, rfl, rfl, rfl⟩
  · rw [hframe]
    rfl

/-- Settles O53: the NMI bounds the bytes of EEPMOV.W, and is requested at the end of both. -/
theorem blockTransferInterrupted : Obligations.BlockTransferInterrupted := by
  intro s k hk
  have hlate : ∀ count, count ≤ k → ∀ j, s.nmiDuringTransfer = some j → count ≤ j := fun count hc j hj => by
    rw [hk] at hj
    cases hj
    exact hc
  refine ⟨fun hlt hready => ?_, fun hlt hready => ?_, fun hle hready => eepmovW_completes (hlate _ hle) hready,
    fun hle hready => eepmovB_completes (hlate _ hle) hready⟩
  · have hmoved : s.bytesMoved (s.reg16 (.r 4)).toNat = k + 1 := by simp only [State.bytesMoved, hk, if_pos hlt]
    have hsize := (s.reg16 (.r 4)).isLt
    obtain ⟨b, t, hm, hnext, hl, he⟩ := eepmovW_moves hmoved (by omega) hready
    have hframe := hm.frame
    rw [nmiArrived_of_early (k := k) (by rw [hframe]; exact hk) hlt] at hnext
    refine ⟨_, hnext, hm.movedBlock rfl hready.2.2.2.1, hl, he, ?_, rfl, rfl, ?_, ?_, ?_⟩ <;> rw [hframe] <;> rfl
  · obtain ⟨b, t, hm, hnext, hl, hh, he⟩ := eepmovB_moves hready
    have hframe := hm.frame
    rw [nmiArrived_of_early (k := k) (by rw [hframe]; exact hk) hlt] at hnext
    refine ⟨_, hnext, hm.movedBlock rfl hready.2.2.2.1, hl, hh, he, ?_, rfl, rfl, ?_, ?_, ?_⟩ <;> rw [hframe] <;> rfl

/-! ### One byte at a time, whatever the addresses -/

/-- Without an NMI during the transfer there is none at its end. -/
theorem noNmi_robust : Robust fun s => s.nmiDuringTransfer = none where
  counted _ h := h
  call _ _ _ _ h := h
  write s t a v h hw := (writesTo_of_writeByte hw).sameProcessing.nmiDuringTransfer.trans h
  cpu _ _ _ _ h := h
  setPc _ _ h := h
  noteRead s a h := (readsTo_noteRead s a).sameProcessing.nmiDuringTransfer.trans h
  callRead _ _ _ _ h := h
  hold _ _ h := h
  powerDown s h := by
    unfold State.powerDown
    split <;> exact h
  nmi _ _ := rfl
  abandon _ _ := rfl

end Sys2Proof.Machine

/-! ### EEPMOV byte by byte, and stores into the instruction stream (R104, R350 to R352) -/

namespace Sys2Proof.Machine

/-! ### EEPMOV byte by byte (R350, R351) -/

theorem transferByte_read_error {s : State} {why : Stop} (h : s.readByte (sourceAt s 0) = .error why) :
    s.transferByte 4 = .error why := by
  rw [sourceAt, BitVec.add_zero] at h
  rw [State.transferByte, h]
  rfl

theorem eepmovB_of_error {s : State} {why : Stop} (hne : s.reg8 (.l 4) ≠ 0#8) (h : s.transferByte 4 = .error why) :
    exec .eepmovB s = finish (.error why) := by
  obtain ⟨c, hc⟩ := Nat.exists_eq_succ_of_ne_zero fun h0 => hne (BitVec.eq_of_toNat_eq h0)
  have hexec : exec .eepmovB s = finish (State.transferB (s.reg8 (.l 4)).toNat 4 s >>= fun t =>
      return (t.nmiArrived (s.reg8 (.l 4)).toNat).advance 4) := rfl
  rw [hexec, hc, State.transferB, h]
  rfl

theorem eepmovW_of_error {s : State} {why : Stop} (hnmi : s.nmiDuringTransfer = none) (hne : s.reg16 (.r 4) ≠ 0#16)
    (h : s.transferByte 4 = .error why) : exec .eepmovW s = finish (.error why) := by
  obtain ⟨c, hc⟩ := Nat.exists_eq_succ_of_ne_zero fun h0 => hne (BitVec.eq_of_toNat_eq h0)
  have hexec : exec .eepmovW s = finish (State.transferW (s.bytesMoved (s.reg16 (.r 4)).toNat) 4 s >>= fun t =>
      return (t.nmiArrived (s.reg16 (.r 4)).toNat).advance 4) := rfl
  rw [hexec, State.bytesMoved, hnmi, hc]
  simp only [State.transferW, h]
  rfl

/-- The counter of a block that is not empty, and after its first byte. -/
theorem toNat_sub_one {n : Nat} {x : BitVec n} {c : Nat} (h : x.toNat = c + 1) : (x - 1#n).toNat = c := by
  have hx := x.isLt
  have hn : 1 % 2 ^ n = 1 := Nat.mod_eq_of_lt (by omega)
  rw [BitVec.toNat_sub, BitVec.toNat_ofNat, hn, h, show 2 ^ n - 1 + (c + 1) = c + 2 ^ n by omega, Nat.add_mod_right,
    Nat.mod_eq_of_lt (by omega)]

/-- After one byte what is left of EEPMOV.B is EEPMOV.B again. -/
theorem eepmovB_of_transfer {s u : State} (hnmi : s.nmiDuringTransfer = none) (hne : s.reg8 (.l 4) ≠ 0#8)
    (h : s.transferByte 4 = .ok u) (h4 : u.reg32 4 = s.reg32 4) :
    exec .eepmovB s = exec .eepmovB (u.setReg8 (.l 4) (s.reg8 (.l 4) - 1)) := by
  obtain ⟨c, hc⟩ := Nat.exists_eq_succ_of_ne_zero fun h0 => hne (BitVec.eq_of_toNat_eq h0)
  have hexec : ∀ s : State, exec .eepmovB s = finish (State.transferB (s.reg8 (.l 4)).toNat 4 s >>= fun t =>
      return (t.nmiArrived (s.reg8 (.l 4)).toNat).advance 4) := fun _ => rfl
  have hnmi' : (u.setReg8 (.l 4) (s.reg8 (.l 4) - 1)).nmiDuringTransfer = none :=
    (noNmi_robust.transferByte 4 hnmi).1 u h
  have hcount : ((u.setReg8 (.l 4) (s.reg8 (.l 4) - 1)).reg8 (.l 4)).toNat = c := by
    rw [reg8_setReg8_same]
    exact toNat_sub_one hc
  have hu8 : u.reg8 (.l 4) = s.reg8 (.l 4) := reg8_congr_at (.l 4) h4
  rw [hexec, hexec, hcount, hc, State.transferB, h]
  change finish (State.transferB c 4 (u.setReg8 (.l 4) (u.reg8 (.l 4) - 1)) >>= _) = _
  rw [hu8]
  refine congrArg finish (bind_congr_ok fun t ht => ?_)
  have htn := (noNmi_robust.transferB c 4 hnmi').1 t ht
  rw [nmiArrived_of_late (by rw [htn]; nofun), nmiArrived_of_late (by rw [htn]; nofun)]

/-- After one byte what is left of EEPMOV.W is EEPMOV.W again. -/
theorem eepmovW_of_transfer {s u : State} (hnmi : s.nmiDuringTransfer = none) (hne : s.reg16 (.r 4) ≠ 0#16)
    (h : s.transferByte 4 = .ok u) (h4 : u.reg32 4 = s.reg32 4) :
    exec .eepmovW s = exec .eepmovW (u.setReg16 (.r 4) (s.reg16 (.r 4) - 1)) := by
  obtain ⟨c, hc⟩ := Nat.exists_eq_succ_of_ne_zero fun h0 => hne (BitVec.eq_of_toNat_eq h0)
  have hexec : ∀ s : State, s.nmiDuringTransfer = none → exec .eepmovW s =
      finish (State.transferW (s.reg16 (.r 4)).toNat 4 s >>= fun t =>
        return (t.nmiArrived (s.reg16 (.r 4)).toNat).advance 4) := fun s hs => by
    have hmoved := bytesMoved_of_late (s := s) (count := (s.reg16 (.r 4)).toNat) (by rw [hs]; nofun)
    change finish (State.transferW (s.bytesMoved (s.reg16 (.r 4)).toNat) 4 s >>= _) = _
    rw [hmoved]
  have hnmi' : (u.setReg16 (.r 4) (s.reg16 (.r 4) - 1)).nmiDuringTransfer = none :=
    (noNmi_robust.transferByte 4 hnmi).1 u h
  have hcount : ((u.setReg16 (.r 4) (s.reg16 (.r 4) - 1)).reg16 (.r 4)).toNat = c := by
    rw [reg16_setReg16_same]
    exact toNat_sub_one hc
  have hu16 : u.reg16 (.r 4) = s.reg16 (.r 4) := reg16_congr_at (.r 4) h4
  rw [hexec s hnmi, hexec _ hnmi', hcount, hc, State.transferW, h]
  change finish (State.transferW c 4 (u.setReg16 (.r 4) (u.reg16 (.r 4) - 1)) >>= _) = _
  rw [hu16]
  refine congrArg finish (bind_congr_ok fun t ht => ?_)
  have htn := (noNmi_robust.transferW c 4 hnmi').1 t ht
  rw [nmiArrived_of_late (by rw [htn]; nofun), nmiArrived_of_late (by rw [htn]; nofun)]

/-- Settles O52: the blocks by induction on the counter, one byte by unrolling the transfer once. -/
theorem blockTransfer : Obligations.BlockTransfer := by
  intro s hnmi
  have hlate : ∀ (count k : Nat), s.nmiDuringTransfer = some k → count ≤ k := fun count k hk => by
    rw [hnmi] at hk
    cases hk
  refine ⟨eepmovB_completes (hlate _), eepmovW_completes (hlate _), fun i hi => ?_⟩
  have herror : ∀ why, s.transferByte 4 = .error why → exec i s = finish (.error why) := fun why h => by
    rcases hi with ⟨rfl, hne⟩ | ⟨rfl, hne⟩
    · exact eepmovB_of_error hne h
    · exact eepmovW_of_error hnmi hne h
  refine ⟨fun why h => herror why (transferByte_read_error h), fun v s1 h => ⟨fun why hw => herror why ?_, fun s2 h2 => ?_⟩⟩
  · rw [transferByte_eq h, hw]
    rfl
  · have hmove : s.transferByte 4 = .ok ((s2.setReg32 5 (s.reg32 5 + 1)).setReg32 6 (s.reg32 6 + 1)) := by
      rw [transferByte_eq h, h2]
      rfl
    have h4 : ((s2.setReg32 5 (s.reg32 5 + 1)).setReg32 6 (s.reg32 6 + 1)).reg32 4 = s.reg32 4 := by
      rw [reg32_setReg32_other _ _ (show (4 : RegNum) ≠ 6 by decide),
        reg32_setReg32_other _ _ (show (4 : RegNum) ≠ 5 by decide), reg32_of_storeByte h2,
        (readsTo_of_readByte h).reg32]
    rcases hi with ⟨rfl, hne⟩ | ⟨rfl, hne⟩
    · exact eepmovB_of_transfer hnmi hne hmove h4
    · exact eepmovW_of_transfer hnmi hne hmove h4

/-! ### Stores into the instruction stream (R104) -/

/-- One of the `nb` bytes from `a` on is protected, and all of them lead somewhere. -/
structure Blocked (s : State) (w nb : Nat) (a : Addr) : Prop where
  leads : ∀ j, j < nb → ∀ why, s.locate (a + BitVec.ofNat 24 j) ≠ .stop why
  hits : ∃ j, j < nb ∧ s.inStream w (a + BitVec.ofNat 24 j) = true

theorem phys_sub_congr {m : McuMode} {x y : Addr} (h : phys m x = phys m y) (z : Addr) :
    phys m (x - z) = phys m (y - z) := by
  have hz := z.isLt
  simp only [phys, BitVec.toNat_sub] at *
  split_ifs at * <;> omega

theorem phys_ofNat_le (m : McuMode) (k : Nat) : phys m (BitVec.ofNat 24 k) ≤ k := by
  simp only [phys, BitVec.toNat_ofNat]
  split
  · exact (Nat.mod_le _ _).trans (Nat.mod_le _ _)
  · exact Nat.mod_le _ _

theorem HitsStream.blocked {len nb : Nat} {a : Addr} {s : State} (h : HitsStream len nb a s) :
    Blocked s (len + 4) nb a := by
  obtain ⟨j, k, hj, hk, hphys⟩ := h.hits
  refine ⟨h.leads, j, hj, decide_eq_true ?_⟩
  rw [evenAddr_of_even h.evenPc, phys_sub_congr hphys, BitVec.add_comm s.pc, BitVec.add_sub_cancel]
  exact (phys_ofNat_le _ k).trans_lt hk

theorem Blocked.congr {s t : State} {w nb : Nat} {a : Addr} (hin : SameInputs s t) (hpc : t.pc = s.pc)
    (h : Blocked s w nb a) : Blocked t w nb a := by
  obtain ⟨j, hj, hs⟩ := h.hits
  exact ⟨fun j hj why hl => h.leads j hj why ((locate_stop_congr hin).mp hl), j, hj,
    (inStream_congr hin.mcuMode hpc w _).trans hs⟩

theorem storeWord_blocked {s : State} {w : Nat} {a : Addr} (v : Word) (hr : s.resDuring = none)
    (h : Blocked s w 2 (evenAddr a)) : s.storeWord w a v = .error (.refusal .storeIntoInstructionStream) := by
  obtain ⟨j, hj, hs⟩ := h.hits
  by_cases hfirst : s.inStream w (evenAddr a) = true
  · exact storeWord_refused v hr hfirst
  · obtain rfl : j = 1 := by
      rcases (by omega : j = 0 ∨ j = 1) with rfl | rfl
      · exact absurd (by simpa using hs) hfirst
      · rfl
    rw [State.storeWord]
    split
    · rw [admitStore_refused hr hj hs]
      rfl
    · obtain ⟨s1, h1⟩ := storeByte_completes (v.extractLsb' 8 8) hr (show Storable s w 1 (evenAddr a) from fun i hi => by
        obtain rfl : i = 0 := by omega
        exact ⟨by simpa using hfirst, h.leads 0 (by decide)⟩)
      have hw := writesTo_of_storeByte hr h1
      rw [h1]
      exact storeByte_refused _ (hw.sameInputs.resDuring.trans hr)
        ((inStream_congr hw.sameInputs.mcuMode hw.pc w _).trans hs)

theorem storeLong_blocked {s : State} {w : Nat} {a : Addr} (v : Long) (hr : s.resDuring = none)
    (h : Blocked s w 4 (evenAddr a)) : s.storeLong w a v = .error (.refusal .storeIntoInstructionStream) := by
  obtain ⟨j, hj, hs⟩ := h.hits
  have hleads : ∀ i, i < 2 → ∀ why, s.locate (evenAddr a + BitVec.ofNat 24 i) ≠ .stop why := fun i hi => h.leads i (by omega)
  by_cases hfirst : ∃ i, i < 2 ∧ s.inStream w (evenAddr a + BitVec.ofNat 24 i) = true
  · rw [State.storeLong, storeWord_blocked _ hr (by rw [evenAddr_idem]; exact ⟨hleads, hfirst⟩)]
    rfl
  · have hst : Storable s w 2 (evenAddr (evenAddr a)) := fun i hi => by
      rw [evenAddr_idem]
      exact ⟨Bool.eq_false_iff.mpr fun hi' => hfirst ⟨i, hi, hi'⟩, hleads i hi⟩
    obtain ⟨s1, h1⟩ := storeWord_completes (v.extractLsb' 16 16) hr hst
    have hw := writesTo_of_storeWord hr h1
    have hadd : ∀ i, evenAddr a + 2 + BitVec.ofNat 24 i = evenAddr a + BitVec.ofNat 24 (2 + i) := fun i => by
      rw [BitVec.add_assoc, BitVec.ofNat_add]
      rfl
    have hj2 : 2 ≤ j := Nat.le_of_not_lt fun hlt => hfirst ⟨j, hlt, hs⟩
    have hsecond : Blocked s w 2 (evenAddr a + 2) :=
      ⟨fun i hi => by rw [hadd]; exact h.leads (2 + i) (by omega), j - 2, by omega,
        by rw [hadd, Nat.add_sub_cancel' hj2]; exact hs⟩
    rw [State.storeLong, h1]
    exact storeWord_blocked _ (hw.sameInputs.resDuring.trans hr)
      (by rw [evenAddr_add_two]; exact hsecond.congr hw.sameInputs hw.pc)

theorem storeW_blocked {i : Instr} {len : Nat} {m : Mode} {rs : Reg16} {s : State} (he : exec i s = storeW rs m len s)
    (hrs : m.modifies ≠ some rs.num) (h : HitsStream len 2 (evenAddr (s.ea 2 m)) s) :
    exec i s = .refused .storeIntoInstructionStream := by
  have hcpu := cpuTo_preDecrement s 2 m
  have hstore := storeWord_blocked (s.reg16 rs) (hcpu.resDuring.trans h.resHigh)
    (h.blocked.congr hcpu.sameInputs (preDecrement_pc s 2 m))
  rw [he, storeW_eq len s hrs]
  exact congrArg (fun x => finish (x >>= _)) hstore

theorem storeCcr_blocked {i : Instr} {len : Nat} {m : Mode} {s : State} (he : exec i s = storeCcr m len s)
    (h : HitsStream len 2 (evenAddr (s.ea 2 m)) s) : exec i s = .refused .storeIntoInstructionStream := by
  have hdrawn : CpuTo s (s.drawn 1) := ⟨s.er, s.pc, s.ccr, s.irqInhibit, s.draws + 1, rfl⟩
  have hcpu : CpuTo s ((s.drawn 1).preDecrement 2 m) := hdrawn.trans (cpuTo_preDecrement _ 2 m)
  have hstore := storeWord_blocked (s.ccr ++ s.freeByte) (hcpu.resDuring.trans h.resHigh)
    (h.blocked.congr hcpu.sameInputs (preDecrement_pc (s.drawn 1) 2 m))
  rw [he]
  exact congrArg (fun x => finish (x >>= _)) hstore

theorem storeL_blocked {i : Instr} {len : Nat} {m : Mode} {rs : RegNum} {s : State} (he : exec i s = storeL rs m len s)
    (hrs : m.modifies ≠ some rs) (h : HitsStream len 4 (evenAddr (s.ea 4 m)) s) :
    exec i s = .refused .storeIntoInstructionStream := by
  have hcpu := cpuTo_preDecrement s 4 m
  have hstore := storeLong_blocked (s.reg32 rs) (hcpu.resDuring.trans h.resHigh)
    (h.blocked.congr hcpu.sameInputs (preDecrement_pc s 4 m))
  rw [he, storeL_eq len s hrs]
  exact congrArg (fun x => finish (x >>= _)) hstore

theorem inStream_of_hits {len : Nat} {a : Addr} {s : State} (h : HitsStream len 1 a s) :
    s.inStream (len + 4) a = true := by
  obtain ⟨j, hj, hs⟩ := h.blocked.hits
  obtain rfl : j = 0 := by omega
  simpa using hs

theorem storesB_blocked {i : Instr} {len : Nat} {m : Mode} {rs : Reg8} {s : State} (hi : StoresB i len m rs s)
    (hrs : m.modifies ≠ some rs.num) (h : HitsStream len 1 (s.ea 1 m) s) :
    exec i s = .refused .storeIntoInstructionStream :=
  ((hi hrs).1 h.resHigh).1 (inStream_of_hits h)

theorem writesBit_blocked {i : Instr} {a : Addr} {k : Nat} {x : Bool → Bool} {s : State} (hi : WritesBit i a k x s)
    (h : HitsStream 4 1 a s) : exec i s = .refused .storeIntoInstructionStream := by
  obtain ⟨v, hv⟩ := peekByte_leads.mpr fun why => by simpa using h.leads 0 (by decide) why
  exact (hi.2 v _ (readByte_of_peek hv)).1 h.resHigh (inStream_of_hits h)

theorem pushLong_blocked {s : State} {w : Nat} (v : Long) (hr : s.resDuring = none) (h : Blocked s w 4 (frameAddr s)) :
    s.pushLong w v = .error (.refusal .storeIntoInstructionStream) := by
  rw [pushLong_eq]
  exact storeLong_blocked (s := s.setReg32 sp (s.reg32 sp - 4)) v hr
    (by rw [evenAddr_frameAddr]; exact h.congr (cpuTo_setReg32 s sp _).sameInputs rfl)

theorem call_blocked {s s1 : State} {i : Instr} {len : Nat} {target : Addr} (hform : CallForm s i len target s1)
    (h : HitsStream len 4 (frameAddr s) s) : exec i s = .refused .storeIntoInstructionStream := by
  obtain ⟨hread, he, -⟩ := callForm_reads hform
  have hdrawn : CpuTo s1 (s1.drawn 1) := ⟨s1.er, s1.pc, s1.ccr, s1.irqInhibit, s1.draws + 1, rfl⟩
  have hin := hread.sameInputs.trans hdrawn.sameInputs
  have hframe : frameAddr (s1.drawn 1) = frameAddr s := hread.frameAddr
  have hpush := pushLong_blocked (s := s1.drawn 1) (w := len + 4) (s1.freeByte ++ s1.nextPc len)
    (hin.resDuring.trans h.resHigh) (by rw [hframe]; exact h.blocked.congr hin hread.pc)
  rw [he]
  exact congrArg (fun x => finish (x >>= _)) hpush

theorem trapa_blocked {s : State} {k : BitVec 2} (h : HitsStream 2 4 (frameAddr s) s) :
    exec (.trapa k) s = .refused .storeIntoInstructionStream :=
  congrArg (fun x => finish (x >>= _)) (pushLong_blocked (w := 6) (s.ccr ++ s.nextPc 2) h.resHigh h.blocked)

/-! ### EEPMOV into the instruction stream -/

/-- The byte that hits the stream is refused once the bytes before it have been moved. -/
theorem Moving.transferByte_refused {s u : State} {j : Nat} {b : Nat → Byte} (hm : Moving s j b u) (hready : BlockReady j s)
    (hsource : (s.locate (sourceAt s j)).isMemory = true) (h : HitsStream 4 1 (destinationAt s j) s) :
    u.transferByte 4 = .error (.refusal .storeIntoInstructionStream) := by
  obtain ⟨v, hv, -, -⟩ := hm.next_byte hsource hready.2.2.2.1
  have hread : u.readByte (sourceAt u 0) = .ok (v, u) := by
    rw [hm.source_eq]
    exact readByte_of_isMemory (by rw [hm.locate]; exact hsource) hv
  rw [transferByte_eq hread, storeByte_refused v (hm.resDuring.trans h.resHigh)
    (by rw [hm.destination_eq, hm.inStream]; exact inStream_of_hits h)]
  rfl

theorem Moving.transferB_refused {s : State} {j : Nat} (hready : BlockReady j s) (hj : j < 0x100000)
    (hsource : (s.locate (sourceAt s j)).isMemory = true) (h : HitsStream 4 1 (destinationAt s j) s) (r : Nat) :
    ∀ {k : Nat} {b : Nat → Byte} {u : State}, Moving s k b u → k ≤ j → j < k + r →
      State.transferB r 4 u = .error (.refusal .storeIntoInstructionStream) := by
  induction r with
  | zero => exact fun _ _ _ => by omega
  | succ r ih =>
    intro k b u hm hk hr
    rcases Nat.eq_or_lt_of_le hk with rfl | hlt
    · rw [State.transferB, hm.transferByte_refused hready hsource h]
      rfl
    · obtain ⟨b1, u1, h1, hm1, -⟩ := hm.step hready hlt (by omega)
      rw [State.transferB, h1]
      exact ih (hm1.setCounter _) hlt (by omega)

theorem Moving.transferW_refused {s : State} {j : Nat} (hready : BlockReady j s) (hj : j < 0x100000)
    (hsource : (s.locate (sourceAt s j)).isMemory = true) (h : HitsStream 4 1 (destinationAt s j) s) (r : Nat) :
    ∀ {k : Nat} {b : Nat → Byte} {u : State}, Moving s k b u → k ≤ j → j < k + r →
      State.transferW r 4 u = .error (.refusal .storeIntoInstructionStream) := by
  induction r with
  | zero => exact fun _ _ _ => by omega
  | succ r ih =>
    intro k b u hm hk hr
    rcases Nat.eq_or_lt_of_le hk with rfl | hlt
    · rw [State.transferW, hm.transferByte_refused hready hsource h]
      rfl
    · obtain ⟨b1, u1, h1, hm1, -⟩ := hm.step hready hlt (by omega)
      rw [State.transferW, h1]
      exact ih (hm1.setCounter _) hlt (by omega)

theorem eepmov_blocked {s : State} {j : Nat} (hnmi : s.nmiDuringTransfer = none) (hready : BlockReady j s)
    (hsource : (s.locate (sourceAt s j)).isMemory = true) (h : HitsStream 4 1 (destinationAt s j) s) :
    (j < (s.reg8 (.l 4)).toNat → exec .eepmovB s = .refused .storeIntoInstructionStream) ∧
      (j < (s.reg16 (.r 4)).toNat → exec .eepmovW s = .refused .storeIntoInstructionStream) := by
  have hzero := moving_zero (s := s) (fun _ => 0#8) hready.2.1
  refine ⟨fun hj => ?_, fun hj => ?_⟩
  · have hsize := (s.reg8 (.l 4)).isLt
    have hrefused := Moving.transferB_refused hready (by omega) hsource h (s.reg8 (.l 4)).toNat hzero (Nat.zero_le j)
      (by omega)
    exact congrArg (fun x => finish (x >>= _)) hrefused
  · have hsize := (s.reg16 (.r 4)).isLt
    have hrefused := Moving.transferW_refused hready (by omega) hsource h (s.reg16 (.r 4)).toNat hzero (Nat.zero_le j)
      (by omega)
    rw [← bytesMoved_of_late (s := s) (count := (s.reg16 (.r 4)).toNat) (by rw [hnmi]; nofun)] at hrefused
    exact congrArg (fun x => finish (x >>= _)) hrefused

/-- Settles O25: every storing form, by the store it ends in. -/
theorem streamStoreRefused : Obligations.StreamStoreRefused := by
  intro s n d e b k vec p x q i len m
  obtain ⟨b1, b2, b3, b4, b5, b6, b7⟩ := storeByte s n d e b p
  obtain ⟨w1, w2, w3, w4, w5, w6, w7, w8, w9, w10, w11, w12, w13, w14, w15, w16⟩ := writeBitOfMemory s k p n b
  refine ⟨?_, ?_, ?_, ?_, ?_, fun target s1 => call_blocked, trapa_blocked, fun j => eepmov_blocked⟩
  · rintro (⟨rfl, rfl, rfl⟩ | ⟨rfl, rfl, rfl⟩ | ⟨rfl, rfl, rfl⟩ | ⟨rfl, rfl, rfl, hn⟩ | ⟨rfl, rfl, rfl⟩ |
      ⟨rfl, rfl, rfl⟩ | ⟨rfl, rfl, rfl⟩)
    · exact storesB_blocked b1 nofun
    · exact storesB_blocked b2 nofun
    · exact storesB_blocked b3 nofun
    · exact storesB_blocked b4 fun h => hn (Option.some.inj h).symm
    · exact storesB_blocked b5 nofun
    · exact storesB_blocked b6 nofun
    · exact storesB_blocked b7 nofun
  · rintro (⟨rfl, rfl, rfl⟩ | ⟨rfl, rfl, rfl⟩ | ⟨rfl, rfl, rfl⟩ | ⟨rfl, rfl, rfl, hn⟩ | ⟨rfl, rfl, rfl, hn⟩ |
      ⟨rfl, rfl, rfl⟩ | ⟨rfl, rfl, rfl⟩ | ⟨rfl, rfl, rfl⟩ | ⟨rfl, rfl, rfl⟩ | ⟨rfl, rfl, rfl⟩ | ⟨rfl, rfl, rfl⟩ |
      ⟨rfl, rfl, rfl⟩ | ⟨rfl, rfl, rfl⟩)
    · exact storeW_blocked (rs := x) rfl nofun
    · exact storeW_blocked (rs := x) rfl nofun
    · exact storeW_blocked (rs := x) rfl nofun
    · exact storeW_blocked (rs := x) rfl fun h => hn (Option.some.inj h).symm
    · exact storeW_blocked (rs := x) rfl fun h => hn (Option.some.inj h).symm
    · exact storeW_blocked (rs := x) rfl nofun
    · exact storeW_blocked (rs := x) rfl nofun
    · exact storeCcr_blocked rfl
    · exact storeCcr_blocked rfl
    · exact storeCcr_blocked rfl
    · exact storeCcr_blocked rfl
    · exact storeCcr_blocked rfl
    · exact storeCcr_blocked rfl
  · rintro (⟨rfl, rfl, rfl⟩ | ⟨rfl, rfl, rfl⟩ | ⟨rfl, rfl, rfl⟩ | ⟨rfl, rfl, rfl, hn⟩ | ⟨rfl, rfl, rfl, hn⟩ |
      ⟨rfl, rfl, rfl⟩ | ⟨rfl, rfl, rfl⟩)
    · exact storeL_blocked (rs := q) rfl nofun
    · exact storeL_blocked (rs := q) rfl nofun
    · exact storeL_blocked (rs := q) rfl nofun
    · exact storeL_blocked (rs := q) rfl fun h => hn (Option.some.inj h).symm
    · exact storeL_blocked (rs := q) rfl fun h => hn (Option.some.inj h).symm
    · exact storeL_blocked (rs := q) rfl nofun
    · exact storeL_blocked (rs := q) rfl nofun
  · rintro (rfl | rfl | rfl | rfl | rfl | rfl | rfl | rfl)
    · exact writesBit_blocked w1
    · exact writesBit_blocked w2
    · exact writesBit_blocked w5
    · exact writesBit_blocked w6
    · exact writesBit_blocked w9
    · exact writesBit_blocked w10
    · exact writesBit_blocked w13
    · exact writesBit_blocked w15
  · rintro (rfl | rfl | rfl | rfl | rfl | rfl | rfl | rfl)
    · exact writesBit_blocked w3
    · exact writesBit_blocked w4
    · exact writesBit_blocked w7
    · exact writesBit_blocked w8
    · exact writesBit_blocked w11
    · exact writesBit_blocked w12
    · exact writesBit_blocked w14
    · exact writesBit_blocked w16

end Sys2Proof.Machine

/-! ### The fetch (R79) -/

namespace Sys2Proof

theorem bytesOfNibbles_length : ∀ ns : List Nibble, (bytesOfNibbles ns).length = ns.length / 2
  | [] => rfl
  | [_] => by simp [bytesOfNibbles]
  | a :: b :: ns => by
    rw [bytesOfNibbles, List.length_cons, bytesOfNibbles_length ns, List.length_cons, List.length_cons]
    omega

/-- An instruction is one to five words long (R111). -/
theorem encode_length (i : Instr) : ∃ n, (encode i).length = 2 * n ∧ n ≤ maxLength / 2 := by
  have h := encodeNibbles_length i
  rw [Laws.Length.Statement] at h
  refine ⟨(encodeNibbles i).length / 4, ?_⟩
  rw [encode, bytesOfNibbles_length, show maxLength / 2 = 5 from rfl]
  simp only [List.mem_cons, List.not_mem_nil, or_false] at h
  omega

namespace Machine

theorem append_extract (x y : Byte) : (x ++ y : Word).extractLsb' 8 8 = x ∧ (x ++ y : Word).extractLsb' 0 8 = y := by
  have hx := x.isLt
  have hy := y.isLt
  constructor <;> apply BitVec.eq_of_toNat_eq <;>
    simp only [BitVec.extractLsb'_toNat, toNat_append_eq, Nat.shiftRight_eq_div_pow] <;> omega

theorem add_two_add (a : Addr) (j : Nat) : a + 2 + BitVec.ofNat 24 j = a + BitVec.ofNat 24 (j + 2) := by
  rw [Nat.add_comm j 2, BitVec.ofNat_add, BitVec.add_assoc]
  rfl

/-- The bytes `L` stand from `a` on, and no device answers for them. -/
def Stands (s : State) (a : Addr) (L : List Byte) : Prop :=
  ∀ j, j < L.length → (s.locate (a + BitVec.ofNat 24 j)).isDevice = false ∧
    s.peekByte (a + BitVec.ofNat 24 j) = .ok (L.getD j 0)

/-- The word at an even address where two bytes stand, and what stands behind it. -/
theorem Stands.readWord {s : State} {a : Addr} {x y : Byte} {L : List Byte} (he : evenAddr a = a)
    (h : Stands s a (x :: y :: L)) :
    ∃ s', s.readWord a = .ok (x ++ y, s') ∧ Stands s' (a + 2) L := by
  obtain ⟨d0, p0⟩ := h 0 (by simp)
  obtain ⟨d1, p1⟩ := h 1 (by simp)
  rw [BitVec.add_zero] at d0 p0
  have hread := readWord_of_peek (s := s) (a := a) (hi := x) (lo := y) (by rwa [he]) (by rwa [he]) (by rw [he]; exact p1)
  rw [he] at hread
  refine ⟨_, hread, fun j hj => ?_⟩
  obtain ⟨d, p⟩ := h (j + 2) (by simpa using hj)
  rw [add_two_add, noteRead_locate, noteRead_locate]
  refine ⟨d, ?_⟩
  rw [noteRead_peekByte (.inr (by rwa [noteRead_locate])), noteRead_peekByte (.inr d), p]
  rfl

/-- A fetch sees the bytes that stand at an even address, whatever it sees behind them. -/
theorem fetchWords_of_stands (n : Nat) : ∀ {K : Nat} {a : Addr} {s : State} {L : List Byte}, n ≤ K → L.length = 2 * n →
    evenAddr a = a → Stands s a L → ∃ rest, (State.fetchWords K a s).1 = L ++ rest := by
  induction n with
  | zero =>
    intro K a s L _ hL _ _
    obtain rfl := List.eq_nil_of_length_eq_zero hL
    exact ⟨_, rfl⟩
  | succ n ih =>
    intro K a s L hK hL he h
    obtain ⟨K, rfl⟩ : ∃ k, K = k + 1 := ⟨K - 1, by omega⟩
    match L, hL with
    | x :: y :: L, hL =>
      obtain ⟨s', hread, h'⟩ := h.readWord he
      obtain ⟨rest, hrest⟩ := ih (K := K) (a := a + 2) (by omega) (by simpa [Nat.mul_add] using hL)
        (by have := evenAddr_add_two a; rwa [he] at this) h'
      refine ⟨rest, ?_⟩
      simp only [State.fetchWords, hread, hrest, append_extract, List.cons_append]

/-- Fetching from memory changes nothing. -/
theorem afterFetch_of_isMemory (n : Nat) : ∀ {a : Addr} {s : State} {L : List Byte}, L.length = 2 * n → evenAddr a = a →
    Stands s a L → (∀ j, j < L.length → (s.locate (a + BitVec.ofNat 24 j)).isMemory = true) →
    State.afterFetch n a s = s := by
  induction n with
  | zero => exact fun _ _ _ _ => rfl
  | succ n ih =>
    intro a s L hL he h hm
    match L, hL with
    | x :: y :: L, hL =>
      have h0 := h 0 (by simp)
      have h1 := h 1 (by simp)
      have m0 := hm 0 (by simp)
      rw [BitVec.add_zero] at h0 m0
      have hread : s.readWord a = .ok (x ++ y, s) := readWord_of_isMemory (by rwa [he]) (by rw [he]; exact hm 1 (by simp))
        (by rw [he]; exact h0.2) (by rw [he]; exact h1.2)
      obtain ⟨s', hread', h'⟩ := h.readWord he
      obtain rfl : s = s' := congrArg Prod.snd (Except.ok.inj (hread.symm.trans hread'))
      simp only [State.afterFetch, hread]
      exact ih (by simpa [Nat.mul_add] using hL) (by have := evenAddr_add_two a; rwa [he] at this) h' fun j hj => by
        rw [add_two_add]
        exact hm (j + 2) (by simpa using hj)

/-- Settles O4: the fetch sees the encoding first, which decodes with anything behind it. -/
theorem fetchReadsMemory : Obligations.FetchReadsMemory := by
  intro s i hi h
  obtain ⟨n, hlen, hn⟩ := encode_length i
  have he := evenAddr_idem s.pc
  obtain ⟨rest, hrest⟩ := fetchWords_of_stands n hn hlen he h
  have hwords : ((encode i ++ rest).length - rest.length) / 2 = n := by
    rw [List.length_append, Nat.add_sub_cancel, hlen]
    omega
  have hfetch : s.fetch = .ok (i, State.afterFetch n (evenAddr s.pc) s) := by
    simp only [State.fetch, hrest, decodeOfEncode i rest hi, hwords]
  exact ⟨_, hfetch, fun hm => afterFetch_of_isMemory n hlen he h hm⟩

end Machine

end Sys2Proof
